-- ==== Sys2Proof/Word.lean ====
section
/-! DEFINITION. The machine's two word widths (00 R6, R8): bytes on the 8-bit data bus, words for
addresses, register pairs, PC and SP. Arithmetic on them is BitVec's own, modulo 2^8 and 2^16. -/

namespace Sys2Proof

/-- An 8-bit value: a register, a data-bus byte (00 R6). -/
abbrev Byte := BitVec 8

/-- A 16-bit value: an address, a register pair, PC, SP (00 R6). -/
abbrev Word := BitVec 16

end Sys2Proof
end

