-- ==== Sys2Proof/Machine/Bits.lean ====
section
/-! DEFINITION. Bit-field, byte-order and sign-extension helpers of the spec's notation (00 R8). -/

namespace Sys2Proof

/-- `hi(w) = w[15:8]` (00 R8). -/
def hiByte (w : Word) : Byte := (w >>> 8).setWidth 8

/-- `lo(w) = w[7:0]` (00 R8). -/
def loByte (w : Word) : Byte := w.setWidth 8

/-- `a:b`, `a` the high byte (00 R8; pairs 10 R20). -/
def pair (h l : Byte) : Word := h ++ l

/-- `sext_16(v)`: bit 7 copied to bits 15-8 (00 R8). -/
def sext16 (v : Byte) : Word := v.signExtend 16

/-- `v[i]` (00 R8). -/
def bitOf (v : Byte) (i : Nat) : Bool := v.getLsbD i

/-- The byte with bit i equal to `b` and every other bit 0. -/
def bitAt (b : Bool) (i : Nat) : Byte := if b then 1#8 <<< i else 0

end Sys2Proof
end

