-- ==== Sys2Proof/Config.lean ====
section
/-! DEFINITION. What is fixed for a run and what an implementation fixes: the parameters of 00 R7, the
cartridge's controller variant and RAM size (20 R90). They are plain data, held by State and changed
by no step (10 R56; log entries 1 and 6). The one free value, `Config.drawLen`, reads the state, so
it stands in Machine/State.lean (log entry 6). -/

namespace Sys2Proof

/-- P_MODE3_LEN (65 R383): its default formula, or another function of the state at dot 80 with range
172..289, the k-th of a family nothing is known of (`Config.drawLen`; log entry 6). -/
inductive Mode3Len where
  | formula
  | other (k : Nat)
  deriving DecidableEq, Repr

/-- The parameters of 00 R7 that a step reads, each with the spec's default. -/
structure Params where
  /-- P_CONTENTION (20 R76): PPU-mode access blocking of VRAM and OAM. -/
  contention : Bool := true
  /-- P_DMA_CYCLES (20 R80): T-cycles charged for an OAM DMA. -/
  dmaCycles : Nat := 640
  /-- P_HALT_BUG (47 R291). -/
  haltBug : Bool := true
  /-- P_TIMA_RELOAD_DELAY (60 R343): T-cycles TIMA holds 0 after an overflow. -/
  timaReloadDelay : Nat := 4
  /-- P_DISPATCH_CYCLES (60 R316): T-cycles of an interrupt dispatch. -/
  dispatchCycles : Nat := 20
  /-- P_MODE3_LEN (65 R383): the Drawing-length function. -/
  mode3Len : Mode3Len := .formula
  deriving DecidableEq, Repr

/-- P_MBC, the controller variant tag (20 R90). -/
inductive Mbc where
  | noMbc
  | mbc1
  deriving DecidableEq, Repr

/-- P_RAM_SIZE, the external RAM size: 0, 2048, 8192 or 32768 bytes (00 R7; 20 R90). -/
inductive RamSize where
  | none
  | kib2
  | kib8
  | kib32
  deriving DecidableEq, Repr

/-- The size in bytes (00 R7). -/
def RamSize.bytes : RamSize → Nat
  | .none => 0
  | .kib2 => 2048
  | .kib8 => 8192
  | .kib32 => 32768

end Sys2Proof
end

