-- ==== Sys2Proof/Machine/Store.lean ====
section
/-! DEFINITION. The one form in which a memory is held: a list of (key, value) pairs, keys strictly
rising, no value equal to what an unlisted key reads as. Byte memories (10 R31) and the frame buffers
(10 R54) both have this form. -/

namespace Sys2Proof.Machine

/-- A memory of `w`-bit cells. A `Store 8` is a list of `Host.Cell`. -/
abbrev Store (w : Nat) := List (Nat × BitVec w)

/-- A byte memory (10 R31), keyed by the offset into its region (20 R60). -/
abbrev Memory := List Host.Cell

/-- A 160 x 144 grid of 2-bit shades (10 R54), cell (line, column) at key `160 * line + column`. -/
abbrev Frame := Store 2

/-- What an unlisted cell reads as. DESIGN CHOICE, unsafe for the memories whose reset contents are
the draws P_RAM_INIT and P_EXTRAM_INIT (log entry 4); for the frame buffers it is the spec's reset
value (10 R54). -/
def Store.unlisted (w : Nat) : BitVec w := 0

/-- The cell at key `a`. -/
def Store.get {w : Nat} : Store w → Nat → BitVec w
  | [], _ => Store.unlisted w
  | (k, x) :: m, a => if k = a then x else Store.get m a

/-- The cell `a` listed with value `v`, in its place in the order. -/
def Store.insert {w : Nat} : Store w → Nat → BitVec w → Store w
  | [], a, v => [(a, v)]
  | (k, x) :: m, a, v =>
    if a < k then (a, v) :: (k, x) :: m
    else if k = a then (a, v) :: m
    else (k, x) :: Store.insert m a v

/-- The cell `a` no longer listed. -/
def Store.erase {w : Nat} : Store w → Nat → Store w
  | [], _ => []
  | (k, x) :: m, a => if k = a then Store.erase m a else (k, x) :: Store.erase m a

/-- The memory with `v` at key `a`: writing the unlisted value removes the entry. -/
def Store.set {w : Nat} (m : Store w) (a : Nat) (v : BitVec w) : Store w :=
  if v = Store.unlisted w then Store.erase m a else Store.insert m a v

/-- The canonical memory that holds `f i` at every key i from `lo` up to (not including) `lo + n`. -/
def Store.tabulateFrom {w : Nat} (f : Nat → BitVec w) : Nat → Nat → Store w
  | _, 0 => []
  | lo, n + 1 =>
    let rest := Store.tabulateFrom f (lo + 1) n
    if f lo = Store.unlisted w then rest else (lo, f lo) :: rest

/-- The canonical memory that holds the given bytes at keys `lo`, `lo + 1`, ... -/
def Store.ofList {w : Nat} : Nat → List (BitVec w) → Store w
  | _, [] => []
  | lo, v :: vs =>
    if v = Store.unlisted w then Store.ofList (lo + 1) vs else (lo, v) :: Store.ofList (lo + 1) vs

/-- Every key is at least `lo` and less than `n`, keys strictly rise, no listed value is the unlisted one. -/
def Store.wfFrom {w : Nat} : Nat → Nat → Store w → Bool
  | _, _, [] => true
  | lo, n, (k, x) :: m =>
    decide (lo ≤ k) && decide (k < n) && decide (x ≠ Store.unlisted w) && Store.wfFrom (k + 1) n m

/-- The canonical form of a memory of `n` cells. -/
def Store.wf {w : Nat} (n : Nat) (m : Store w) : Bool := Store.wfFrom 0 n m

/-- The canonical form of a byte memory of `n` bytes. -/
abbrev Memory.wf (n : Nat) (m : Memory) : Bool := Store.wf (w := 8) n m

end Sys2Proof.Machine
end

