-- ==== Sys2Proof/Machine/State.lean ====
section
/-! DEFINITION. The machine's state as plain data (10 R55), its faults and refusals, and the state after
reset (70 R430). -/

namespace Sys2Proof.Machine

/-- The flags {Z, N, Hf, Cy}, F[7:4] (10 R21). F[3:0] always reads 0 and has no storage (log entry 16). -/
structure Flags where
  /-- Z = F[7], zero. -/
  z : Bool
  /-- N = F[6], subtract. -/
  n : Bool
  /-- Hf = F[5], half-carry. -/
  h : Bool
  /-- Cy = F[4], carry. -/
  c : Bool
  deriving DecidableEq, Repr

/-- The CPU run state (10 R28). -/
inductive Run where
  | running
  | halted
  | stopped
  /-- The IllegalOpcode condition, with the offending address and opcode byte (47 R296). -/
  | faulted (addr : Word) (byte : Byte)
  deriving DecidableEq, Repr

/-- The CPU's registers and hidden latches (10 R20-R29). -/
structure Cpu where
  a : Byte
  f : Flags
  b : Byte
  c : Byte
  d : Byte
  e : Byte
  h : Byte
  l : Byte
  sp : Word
  pc : Word
  /-- The global interrupt-enable latch (10 R26). -/
  ime : Bool
  /-- `ei_pending` (10 R27). -/
  eiPending : Bool
  /-- `halt_bug` (10 R29). -/
  haltBug : Bool
  run : Run
  deriving DecidableEq, Repr

/-- The Timer Unit (10 R37-R40, R52). -/
structure Timer where
  /-- `div_counter`; DIV reads its top byte (10 R37). -/
  div : Word
  tima : Byte
  tma : Byte
  /-- The 3 stored bits of TAC (10 R40). -/
  tac : BitVec 3
  /-- `reload_wait` (10 R52). -/
  reloadWait : Nat
  deriving DecidableEq, Repr

/-- The PPU mode (65 R370). -/
inductive Mode where
  | hblank
  | vblank
  | oamScan
  | drawing
  deriving DecidableEq, Repr

/-- The PPU's registers (10 R42-R48), hidden state (10 R53) and frame buffers (10 R54). -/
structure Ppu where
  lcdc : Byte
  /-- STAT bits 6-3, the stored source enables: bit 3 is STAT[6], bit 0 is STAT[3] (10 R43). -/
  stat : BitVec 4
  scy : Byte
  scx : Byte
  lyc : Byte
  bgp : Byte
  obp0 : Byte
  obp1 : Byte
  wy : Byte
  wx : Byte
  ly : Nat
  dot : Nat
  mode : Mode
  drawLen : Nat
  statLine : Bool
  wyHit : Bool
  winLine : Nat
  winDrawn : Bool
  objs : List Nat
  back : Frame
  front : Frame
  deriving DecidableEq, Repr

/-- The cartridge: what the loader supplied (10 R56; 20 R90), the external RAM and the controller's
registers (10 R32). -/
structure Cart where
  mbc : Mbc
  /-- `rom_banks = len(P_ROM) / 0x4000` (20 R93). -/
  romBanks : Nat
  ramSize : RamSize
  /-- P_ROM, immutable. -/
  rom : Memory
  /-- External RAM. -/
  ram : Memory
  ramEnable : Bool
  bank1 : BitVec 5
  bank2 : BitVec 2
  /-- The banking mode. -/
  mode : Bool
  deriving DecidableEq, Repr

/-- The joypad (10 R33). -/
structure Joypad where
  /-- P1 bit 5. -/
  selAct : Bool
  /-- P1 bit 4. -/
  selDir : Bool
  /-- The host's last sample, 1 = pressed. -/
  buttons : Byte
  deriving DecidableEq, Repr

/-- The serial registers, storage only (10 R36). -/
structure Serial where
  sb : Byte
  /-- SC bit 7. -/
  scStart : Bool
  /-- SC bit 0. -/
  scClock : Bool
  deriving DecidableEq, Repr

/-- The interrupt registers: IF's 5 stored bits (10 R41) and IE (10 R49). -/
structure Irq where
  flags : BitVec 5
  enable : Byte
  deriving DecidableEq, Repr

/-- The console's own memories (10 R31), the sound range (10 R50) and the DMA register (10 R46). -/
structure Mem where
  /-- 8 KiB, key = address - 0x8000. -/
  vram : Memory
  /-- 8 KiB, key = address - 0xC000. -/
  wram : Memory
  /-- 160 bytes, key = address - 0xFE00. -/
  oam : Memory
  /-- 127 bytes, key = address - 0xFF80. -/
  hram : Memory
  /-- The sound registers and wave RAM, 48 bytes, key = address - 0xFF10. -/
  sound : Memory
  /-- The DMA register. -/
  dma : Byte
  deriving DecidableEq, Repr

/-- The whole machine state (10 R55). -/
structure State where
  cpu : Cpu
  timer : Timer
  ppu : Ppu
  cart : Cart
  pad : Joypad
  serial : Serial
  irq : Irq
  mem : Mem
  /-- Configuration, fixed for a run (10 R56). -/
  params : Params
  /-- The T-cycle count the step returns (60 R310). The MODEL'S OWN field (log entry 7). -/
  cost : Nat
  deriving DecidableEq, Repr

/-- The one condition the core reports (47 R296). -/
inductive Fault where
  /-- IllegalOpcode(addr, byte). No step answers with it: an illegal byte leads to the NEXT state whose
  `run` is Faulted (log entry 9), and `readFault` reads this value off such a state. Safe. -/
  | illegalOpcode (addr : Word) (byte : Byte)
  deriving DecidableEq, Repr

/-- Why the model answers nothing. -/
inductive Refusal where
  /-- An instruction with no meaning yet: raised by no arm of exec in this model. Safe. -/
  | notModelled (mnemonic : String)
  /-- `launch` on a cartridge outside 20 R90: a refused launch has no state and no step (70 R433).
  Raised by `launch` alone, by no step. Safe: the spec refuses it too. -/
  | cartridgeNotAdmitted
  deriving DecidableEq, Repr

/-- What a step or a meaning answers. -/
abbrev Result := Host.Outcome State Fault Refusal

/-- The values 70 R430 leaves to the launch: the divider (P_DIV_INIT), the object palettes
(P_OBP_INIT), the memories' power-on contents (P_RAM_INIT, P_EXTRAM_INIT). The defaults are P_DIV_INIT's
own, and for the others the model's (log entries 4 and 5). -/
structure Draws where
  divInit : Word := 0xAB00
  obp0 : Byte := 0
  obp1 : Byte := 0
  vram : Memory := []
  wram : Memory := []
  oam : Memory := []
  hram : Memory := []
  /-- Wave RAM, key = address - 0xFF10, so 32 to 47. -/
  wave : Memory := []
  extRam : Memory := []
  deriving DecidableEq, Repr

/-- The sound registers' reset values, 0xFF10-0xFF2F (10 R50), as keyed cells: 0xFF17, 0xFF21 and 0xFF22
are 0x00 and so unlisted. -/
def soundReset : Memory :=
  [(0x00, 0x80), (0x01, 0xBF), (0x02, 0xF3), (0x03, 0xFF), (0x04, 0xBF), (0x05, 0xFF), (0x06, 0x3F),
   (0x08, 0xFF), (0x09, 0xBF), (0x0A, 0x7F), (0x0B, 0xFF), (0x0C, 0x9F), (0x0D, 0xFF), (0x0E, 0xBF),
   (0x0F, 0xFF), (0x10, 0xFF), (0x13, 0xBF), (0x14, 0x77), (0x15, 0xF3), (0x16, 0xF1), (0x17, 0xFF),
   (0x18, 0xFF), (0x19, 0xFF), (0x1A, 0xFF), (0x1B, 0xFF), (0x1C, 0xFF), (0x1D, 0xFF), (0x1E, 0xFF),
   (0x1F, 0xFF)]

/-- The state right after initialisation with a given cartridge, parameters and draws (70 R430). -/
def State.power (mbc : Mbc) (romBanks : Nat) (ramSize : RamSize) (rom : Memory) (p : Params)
    (d : Draws) : State where
  cpu :=
    { a := 0x01, f := { z := true, n := false, h := true, c := true }, b := 0x00, c := 0x13, d := 0x00,
      e := 0xD8, h := 0x01, l := 0x4D, sp := 0xFFFE, pc := 0x0100, ime := false, eiPending := false,
      haltBug := false, run := .running }
  timer := { div := d.divInit, tima := 0, tma := 0, tac := 0, reloadWait := 0 }
  ppu :=
    { lcdc := 0x91, stat := 0, scy := 0, scx := 0, lyc := 0, bgp := 0xFC, obp0 := d.obp0,
      obp1 := d.obp1, wy := 0, wx := 0, ly := 0, dot := 0, mode := .oamScan, drawLen := 172,
      statLine := false, wyHit := false, winLine := 0, winDrawn := false, objs := [], back := [],
      front := [] }
  cart :=
    { mbc := mbc, romBanks := romBanks, ramSize := ramSize, rom := rom, ram := d.extRam,
      ramEnable := false, bank1 := 1, bank2 := 0, mode := false }
  pad := { selAct := false, selDir := false, buttons := 0 }
  serial := { sb := 0, scStart := false, scClock := false }
  irq := { flags := 0x01, enable := 0x00 }
  mem :=
    { vram := d.vram, wram := d.wram, oam := d.oam, hram := d.hram, sound := soundReset ++ d.wave,
      dma := 0xFF }
  params := p
  cost := 0

/-- The machine right after reset (70 R430) with the launch inputs and draws the log names: a 32 KiB NoMBC
cartridge of 0x00 bytes with no external RAM (log entry 2), the default parameters (00 R7), RAM and object
palettes of 0x00 (log entries 4 and 5). -/
def State.reset : State := State.power .noMbc 2 .none [] {} {}

end Sys2Proof.Machine

/-- The free value of P_MODE3_LEN where it is not its default formula: the k-th function of the state at dot 80,
less 172, so that every function of range 172..289 is one it may be (00 R7; 65 R383; log entry 6). -/
opaque Sys2Proof.Config.drawLen (k : Nat) (s : Sys2Proof.Machine.State) : Fin 118
end

