-- ==== Sys2Proof/Syntax.lean ====
section
/-! DEFINITION. The SM83 instruction set as syntax: one constructor per row of spec/opcode_table.json
(30 R128-R132), and the register, pair, condition and operation codes the spec's fields select
(10 R22, R23; 30 R125-R127). -/

namespace Sys2Proof

/-- The 8-bit registers the code r selects, code 6 left out (10 R22). -/
inductive Reg8 where
  | b | c | d | e | h | l | a
  deriving DecidableEq, Repr

/-- The pairs `rp[p]` (10 R23). -/
inductive Pair where
  | bc | de | hl | sp
  deriving DecidableEq, Repr

/-- The pairs `rp2[p]` of PUSH and POP (10 R23). -/
inductive StackPair where
  | bc | de | hl | af
  deriving DecidableEq, Repr

/-- The condition codes (30 R125). -/
inductive Cond where
  | nz | z | nc | c
  deriving DecidableEq, Repr

/-- The ALU operation field (30 R126). -/
inductive AluOp where
  | add | adc | sub | sbc | and | xor | or | cp
  deriving DecidableEq, Repr

/-- The rotate and shift field of the CB table (30 R127). -/
inductive RotOp where
  | rlc | rrc | rl | rr | sla | sra | swap | srl
  deriving DecidableEq, Repr

/-- The instructions. Each line ends with the encoding's first byte (after CB for the prefixed ones), the
spec's spelling and its rule. `n`, `e` and `nn` are the immediates of 30 R123; STOP's second byte is
ignored and not part of the instruction (30 R135; log entry 17). The rows with an immediate come first,
the others after them, each in the table's order. -/
inductive Instr where
  | ldBCNn (nn : Word)  -- 01 LD BC,nn R181
  | ldBN (n : Byte)  -- 06 LD B,n R153
  | ldAtNnSP (nn : Word)  -- 08 LD (nn),SP R182
  | ldCN (n : Byte)  -- 0E LD C,n R153
  | ldDENn (nn : Word)  -- 11 LD DE,nn R181
  | ldDN (n : Byte)  -- 16 LD D,n R153
  | jr (e : Byte)  -- 18 JR e R274
  | ldEN (n : Byte)  -- 1E LD E,n R153
  | jrNZ (e : Byte)  -- 20 JR NZ,e R275
  | ldHLNn (nn : Word)  -- 21 LD HL,nn R181
  | ldHN (n : Byte)  -- 26 LD H,n R153
  | jrZ (e : Byte)  -- 28 JR Z,e R275
  | ldLN (n : Byte)  -- 2E LD L,n R153
  | jrNC (e : Byte)  -- 30 JR NC,e R275
  | ldSPNn (nn : Word)  -- 31 LD SP,nn R181
  | ldAtHLN (n : Byte)  -- 36 LD (HL),n R154
  | jrC (e : Byte)  -- 38 JR C,e R275
  | ldAN (n : Byte)  -- 3E LD A,n R153
  | jpNZ (nn : Word)  -- C2 JP NZ,nn R272
  | jp (nn : Word)  -- C3 JP nn R271
  | callNZ (nn : Word)  -- C4 CALL NZ,nn R277
  | addAN (n : Byte)  -- C6 ADD A,n R202
  | jpZ (nn : Word)  -- CA JP Z,nn R272
  | callZ (nn : Word)  -- CC CALL Z,nn R277
  | call (nn : Word)  -- CD CALL nn R276
  | adcAN (n : Byte)  -- CE ADC A,n R205
  | jpNC (nn : Word)  -- D2 JP NC,nn R272
  | callNC (nn : Word)  -- D4 CALL NC,nn R277
  | subN (n : Byte)  -- D6 SUB n R208
  | jpC (nn : Word)  -- DA JP C,nn R272
  | callC (nn : Word)  -- DC CALL C,nn R277
  | sbcAN (n : Byte)  -- DE SBC A,n R211
  | ldhAtNA (n : Byte)  -- E0 LDH (n),A R162
  | andN (n : Byte)  -- E6 AND n R214
  | addSPE (e : Byte)  -- E8 ADD SP,e R238
  | ldAtNnA (nn : Word)  -- EA LD (nn),A R160
  | xorN (n : Byte)  -- EE XOR n R217
  | ldhAAtN (n : Byte)  -- F0 LDH A,(n) R161
  | orN (n : Byte)  -- F6 OR n R220
  | ldHLSPE (e : Byte)  -- F8 LD HL,SP+e R185
  | ldAAtNn (nn : Word)  -- FA LD A,(nn) R159
  | cpN (n : Byte)  -- FE CP n R223
  | nop  -- 00 NOP R290
  | ldAtBCA  -- 02 LD (BC),A R157
  | incBC  -- 03 INC BC R236
  | incB  -- 04 INC B R224
  | decB  -- 05 DEC B R226
  | rlca  -- 07 RLCA R240
  | addHLBC  -- 09 ADD HL,BC R235
  | ldAAtBC  -- 0A LD A,(BC) R155
  | decBC  -- 0B DEC BC R237
  | incC  -- 0C INC C R224
  | decC  -- 0D DEC C R226
  | rrca  -- 0F RRCA R241
  | stop  -- 10 STOP R292
  | ldAtDEA  -- 12 LD (DE),A R158
  | incDE  -- 13 INC DE R236
  | incD  -- 14 INC D R224
  | decD  -- 15 DEC D R226
  | rla  -- 17 RLA R242
  | addHLDE  -- 19 ADD HL,DE R235
  | ldAAtDE  -- 1A LD A,(DE) R156
  | decDE  -- 1B DEC DE R237
  | incE  -- 1C INC E R224
  | decE  -- 1D DEC E R226
  | rra  -- 1F RRA R243
  | ldAtHLIncA  -- 22 LD (HL+),A R165
  | incHL  -- 23 INC HL R236
  | incH  -- 24 INC H R224
  | decH  -- 25 DEC H R226
  | daa  -- 27 DAA R228
  | addHLHL  -- 29 ADD HL,HL R235
  | ldAAtHLInc  -- 2A LD A,(HL+) R167
  | decHL  -- 2B DEC HL R237
  | incL  -- 2C INC L R224
  | decL  -- 2D DEC L R226
  | cpl  -- 2F CPL R229
  | ldAtHLDecA  -- 32 LD (HL-),A R166
  | incSP  -- 33 INC SP R236
  | incAtHL  -- 34 INC (HL) R225
  | decAtHL  -- 35 DEC (HL) R227
  | scf  -- 37 SCF R230
  | addHLSP  -- 39 ADD HL,SP R235
  | ldAAtHLDec  -- 3A LD A,(HL-) R168
  | decSP  -- 3B DEC SP R237
  | incA  -- 3C INC A R224
  | decA  -- 3D DEC A R226
  | ccf  -- 3F CCF R231
  | ldBB  -- 40 LD B,B R150
  | ldBC  -- 41 LD B,C R150
  | ldBD  -- 42 LD B,D R150
  | ldBE  -- 43 LD B,E R150
  | ldBH  -- 44 LD B,H R150
  | ldBL  -- 45 LD B,L R150
  | ldBAtHL  -- 46 LD B,(HL) R151
  | ldBA  -- 47 LD B,A R150
  | ldCB  -- 48 LD C,B R150
  | ldCC  -- 49 LD C,C R150
  | ldCD  -- 4A LD C,D R150
  | ldCE  -- 4B LD C,E R150
  | ldCH  -- 4C LD C,H R150
  | ldCL  -- 4D LD C,L R150
  | ldCAtHL  -- 4E LD C,(HL) R151
  | ldCA  -- 4F LD C,A R150
  | ldDB  -- 50 LD D,B R150
  | ldDC  -- 51 LD D,C R150
  | ldDD  -- 52 LD D,D R150
  | ldDE  -- 53 LD D,E R150
  | ldDH  -- 54 LD D,H R150
  | ldDL  -- 55 LD D,L R150
  | ldDAtHL  -- 56 LD D,(HL) R151
  | ldDA  -- 57 LD D,A R150
  | ldEB  -- 58 LD E,B R150
  | ldEC  -- 59 LD E,C R150
  | ldED  -- 5A LD E,D R150
  | ldEE  -- 5B LD E,E R150
  | ldEH  -- 5C LD E,H R150
  | ldEL  -- 5D LD E,L R150
  | ldEAtHL  -- 5E LD E,(HL) R151
  | ldEA  -- 5F LD E,A R150
  | ldHB  -- 60 LD H,B R150
  | ldHC  -- 61 LD H,C R150
  | ldHD  -- 62 LD H,D R150
  | ldHE  -- 63 LD H,E R150
  | ldHH  -- 64 LD H,H R150
  | ldHL  -- 65 LD H,L R150
  | ldHAtHL  -- 66 LD H,(HL) R151
  | ldHA  -- 67 LD H,A R150
  | ldLB  -- 68 LD L,B R150
  | ldLC  -- 69 LD L,C R150
  | ldLD  -- 6A LD L,D R150
  | ldLE  -- 6B LD L,E R150
  | ldLH  -- 6C LD L,H R150
  | ldLL  -- 6D LD L,L R150
  | ldLAtHL  -- 6E LD L,(HL) R151
  | ldLA  -- 6F LD L,A R150
  | ldAtHLB  -- 70 LD (HL),B R152
  | ldAtHLC  -- 71 LD (HL),C R152
  | ldAtHLD  -- 72 LD (HL),D R152
  | ldAtHLE  -- 73 LD (HL),E R152
  | ldAtHLH  -- 74 LD (HL),H R152
  | ldAtHLL  -- 75 LD (HL),L R152
  | halt  -- 76 HALT R291
  | ldAtHLA  -- 77 LD (HL),A R152
  | ldAB  -- 78 LD A,B R150
  | ldAC  -- 79 LD A,C R150
  | ldAD  -- 7A LD A,D R150
  | ldAE  -- 7B LD A,E R150
  | ldAH  -- 7C LD A,H R150
  | ldAL  -- 7D LD A,L R150
  | ldAAtHL  -- 7E LD A,(HL) R151
  | ldAA  -- 7F LD A,A R150
  | addAB  -- 80 ADD A,B R200
  | addAC  -- 81 ADD A,C R200
  | addAD  -- 82 ADD A,D R200
  | addAE  -- 83 ADD A,E R200
  | addAH  -- 84 ADD A,H R200
  | addAL  -- 85 ADD A,L R200
  | addAAtHL  -- 86 ADD A,(HL) R201
  | addAA  -- 87 ADD A,A R200
  | adcAB  -- 88 ADC A,B R203
  | adcAC  -- 89 ADC A,C R203
  | adcAD  -- 8A ADC A,D R203
  | adcAE  -- 8B ADC A,E R203
  | adcAH  -- 8C ADC A,H R203
  | adcAL  -- 8D ADC A,L R203
  | adcAAtHL  -- 8E ADC A,(HL) R204
  | adcAA  -- 8F ADC A,A R203
  | subB  -- 90 SUB B R206
  | subC  -- 91 SUB C R206
  | subD  -- 92 SUB D R206
  | subE  -- 93 SUB E R206
  | subH  -- 94 SUB H R206
  | subL  -- 95 SUB L R206
  | subAtHL  -- 96 SUB (HL) R207
  | subA  -- 97 SUB A R206
  | sbcAB  -- 98 SBC A,B R209
  | sbcAC  -- 99 SBC A,C R209
  | sbcAD  -- 9A SBC A,D R209
  | sbcAE  -- 9B SBC A,E R209
  | sbcAH  -- 9C SBC A,H R209
  | sbcAL  -- 9D SBC A,L R209
  | sbcAAtHL  -- 9E SBC A,(HL) R210
  | sbcAA  -- 9F SBC A,A R209
  | andB  -- A0 AND B R212
  | andC  -- A1 AND C R212
  | andD  -- A2 AND D R212
  | andE  -- A3 AND E R212
  | andH  -- A4 AND H R212
  | andL  -- A5 AND L R212
  | andAtHL  -- A6 AND (HL) R213
  | andA  -- A7 AND A R212
  | xorB  -- A8 XOR B R215
  | xorC  -- A9 XOR C R215
  | xorD  -- AA XOR D R215
  | xorE  -- AB XOR E R215
  | xorH  -- AC XOR H R215
  | xorL  -- AD XOR L R215
  | xorAtHL  -- AE XOR (HL) R216
  | xorA  -- AF XOR A R215
  | orB  -- B0 OR B R218
  | orC  -- B1 OR C R218
  | orD  -- B2 OR D R218
  | orE  -- B3 OR E R218
  | orH  -- B4 OR H R218
  | orL  -- B5 OR L R218
  | orAtHL  -- B6 OR (HL) R219
  | orA  -- B7 OR A R218
  | cpB  -- B8 CP B R221
  | cpC  -- B9 CP C R221
  | cpD  -- BA CP D R221
  | cpE  -- BB CP E R221
  | cpH  -- BC CP H R221
  | cpL  -- BD CP L R221
  | cpAtHL  -- BE CP (HL) R222
  | cpA  -- BF CP A R221
  | retNZ  -- C0 RET NZ R279
  | popBC  -- C1 POP BC R188
  | pushBC  -- C5 PUSH BC R187
  | rst00  -- C7 RST 00H R281
  | retZ  -- C8 RET Z R279
  | ret  -- C9 RET R278
  | rst08  -- CF RST 08H R281
  | retNC  -- D0 RET NC R279
  | popDE  -- D1 POP DE R188
  | illegalD3  -- D3 ILLEGAL (0xD3) R296
  | pushDE  -- D5 PUSH DE R187
  | rst10  -- D7 RST 10H R281
  | retC  -- D8 RET C R279
  | reti  -- D9 RETI R280
  | illegalDB  -- DB ILLEGAL (0xDB) R296
  | illegalDD  -- DD ILLEGAL (0xDD) R296
  | rst18  -- DF RST 18H R281
  | popHL  -- E1 POP HL R188
  | ldhAtCA  -- E2 LDH (C),A R164
  | illegalE3  -- E3 ILLEGAL (0xE3) R296
  | illegalE4  -- E4 ILLEGAL (0xE4) R296
  | pushHL  -- E5 PUSH HL R187
  | rst20  -- E7 RST 20H R281
  | jpHL  -- E9 JP HL R273
  | illegalEB  -- EB ILLEGAL (0xEB) R296
  | illegalEC  -- EC ILLEGAL (0xEC) R296
  | illegalED  -- ED ILLEGAL (0xED) R296
  | rst28  -- EF RST 28H R281
  | popAF  -- F1 POP AF R189
  | ldhAAtC  -- F2 LDH A,(C) R163
  | di  -- F3 DI R293
  | illegalF4  -- F4 ILLEGAL (0xF4) R296
  | pushAF  -- F5 PUSH AF R187
  | rst30  -- F7 RST 30H R281
  | ldSPHL  -- F9 LD SP,HL R183
  | ei  -- FB EI R294
  | illegalFC  -- FC ILLEGAL (0xFC) R296
  | illegalFD  -- FD ILLEGAL (0xFD) R296
  | rst38  -- FF RST 38H R281
  | rlcB  -- CB 00 RLC B R244
  | rlcC  -- CB 01 RLC C R244
  | rlcD  -- CB 02 RLC D R244
  | rlcE  -- CB 03 RLC E R244
  | rlcH  -- CB 04 RLC H R244
  | rlcL  -- CB 05 RLC L R244
  | rlcAtHL  -- CB 06 RLC (HL) R245
  | rlcA  -- CB 07 RLC A R244
  | rrcB  -- CB 08 RRC B R246
  | rrcC  -- CB 09 RRC C R246
  | rrcD  -- CB 0A RRC D R246
  | rrcE  -- CB 0B RRC E R246
  | rrcH  -- CB 0C RRC H R246
  | rrcL  -- CB 0D RRC L R246
  | rrcAtHL  -- CB 0E RRC (HL) R247
  | rrcA  -- CB 0F RRC A R246
  | rlB  -- CB 10 RL B R248
  | rlC  -- CB 11 RL C R248
  | rlD  -- CB 12 RL D R248
  | rlE  -- CB 13 RL E R248
  | rlH  -- CB 14 RL H R248
  | rlL  -- CB 15 RL L R248
  | rlAtHL  -- CB 16 RL (HL) R249
  | rlA  -- CB 17 RL A R248
  | rrB  -- CB 18 RR B R250
  | rrC  -- CB 19 RR C R250
  | rrD  -- CB 1A RR D R250
  | rrE  -- CB 1B RR E R250
  | rrH  -- CB 1C RR H R250
  | rrL  -- CB 1D RR L R250
  | rrAtHL  -- CB 1E RR (HL) R251
  | rrA  -- CB 1F RR A R250
  | slaB  -- CB 20 SLA B R252
  | slaC  -- CB 21 SLA C R252
  | slaD  -- CB 22 SLA D R252
  | slaE  -- CB 23 SLA E R252
  | slaH  -- CB 24 SLA H R252
  | slaL  -- CB 25 SLA L R252
  | slaAtHL  -- CB 26 SLA (HL) R253
  | slaA  -- CB 27 SLA A R252
  | sraB  -- CB 28 SRA B R254
  | sraC  -- CB 29 SRA C R254
  | sraD  -- CB 2A SRA D R254
  | sraE  -- CB 2B SRA E R254
  | sraH  -- CB 2C SRA H R254
  | sraL  -- CB 2D SRA L R254
  | sraAtHL  -- CB 2E SRA (HL) R255
  | sraA  -- CB 2F SRA A R254
  | swapB  -- CB 30 SWAP B R256
  | swapC  -- CB 31 SWAP C R256
  | swapD  -- CB 32 SWAP D R256
  | swapE  -- CB 33 SWAP E R256
  | swapH  -- CB 34 SWAP H R256
  | swapL  -- CB 35 SWAP L R256
  | swapAtHL  -- CB 36 SWAP (HL) R257
  | swapA  -- CB 37 SWAP A R256
  | srlB  -- CB 38 SRL B R258
  | srlC  -- CB 39 SRL C R258
  | srlD  -- CB 3A SRL D R258
  | srlE  -- CB 3B SRL E R258
  | srlH  -- CB 3C SRL H R258
  | srlL  -- CB 3D SRL L R258
  | srlAtHL  -- CB 3E SRL (HL) R259
  | srlA  -- CB 3F SRL A R258
  | bit0B  -- CB 40 BIT 0,B R260
  | bit0C  -- CB 41 BIT 0,C R260
  | bit0D  -- CB 42 BIT 0,D R260
  | bit0E  -- CB 43 BIT 0,E R260
  | bit0H  -- CB 44 BIT 0,H R260
  | bit0L  -- CB 45 BIT 0,L R260
  | bit0AtHL  -- CB 46 BIT 0,(HL) R261
  | bit0A  -- CB 47 BIT 0,A R260
  | bit1B  -- CB 48 BIT 1,B R260
  | bit1C  -- CB 49 BIT 1,C R260
  | bit1D  -- CB 4A BIT 1,D R260
  | bit1E  -- CB 4B BIT 1,E R260
  | bit1H  -- CB 4C BIT 1,H R260
  | bit1L  -- CB 4D BIT 1,L R260
  | bit1AtHL  -- CB 4E BIT 1,(HL) R261
  | bit1A  -- CB 4F BIT 1,A R260
  | bit2B  -- CB 50 BIT 2,B R260
  | bit2C  -- CB 51 BIT 2,C R260
  | bit2D  -- CB 52 BIT 2,D R260
  | bit2E  -- CB 53 BIT 2,E R260
  | bit2H  -- CB 54 BIT 2,H R260
  | bit2L  -- CB 55 BIT 2,L R260
  | bit2AtHL  -- CB 56 BIT 2,(HL) R261
  | bit2A  -- CB 57 BIT 2,A R260
  | bit3B  -- CB 58 BIT 3,B R260
  | bit3C  -- CB 59 BIT 3,C R260
  | bit3D  -- CB 5A BIT 3,D R260
  | bit3E  -- CB 5B BIT 3,E R260
  | bit3H  -- CB 5C BIT 3,H R260
  | bit3L  -- CB 5D BIT 3,L R260
  | bit3AtHL  -- CB 5E BIT 3,(HL) R261
  | bit3A  -- CB 5F BIT 3,A R260
  | bit4B  -- CB 60 BIT 4,B R260
  | bit4C  -- CB 61 BIT 4,C R260
  | bit4D  -- CB 62 BIT 4,D R260
  | bit4E  -- CB 63 BIT 4,E R260
  | bit4H  -- CB 64 BIT 4,H R260
  | bit4L  -- CB 65 BIT 4,L R260
  | bit4AtHL  -- CB 66 BIT 4,(HL) R261
  | bit4A  -- CB 67 BIT 4,A R260
  | bit5B  -- CB 68 BIT 5,B R260
  | bit5C  -- CB 69 BIT 5,C R260
  | bit5D  -- CB 6A BIT 5,D R260
  | bit5E  -- CB 6B BIT 5,E R260
  | bit5H  -- CB 6C BIT 5,H R260
  | bit5L  -- CB 6D BIT 5,L R260
  | bit5AtHL  -- CB 6E BIT 5,(HL) R261
  | bit5A  -- CB 6F BIT 5,A R260
  | bit6B  -- CB 70 BIT 6,B R260
  | bit6C  -- CB 71 BIT 6,C R260
  | bit6D  -- CB 72 BIT 6,D R260
  | bit6E  -- CB 73 BIT 6,E R260
  | bit6H  -- CB 74 BIT 6,H R260
  | bit6L  -- CB 75 BIT 6,L R260
  | bit6AtHL  -- CB 76 BIT 6,(HL) R261
  | bit6A  -- CB 77 BIT 6,A R260
  | bit7B  -- CB 78 BIT 7,B R260
  | bit7C  -- CB 79 BIT 7,C R260
  | bit7D  -- CB 7A BIT 7,D R260
  | bit7E  -- CB 7B BIT 7,E R260
  | bit7H  -- CB 7C BIT 7,H R260
  | bit7L  -- CB 7D BIT 7,L R260
  | bit7AtHL  -- CB 7E BIT 7,(HL) R261
  | bit7A  -- CB 7F BIT 7,A R260
  | res0B  -- CB 80 RES 0,B R262
  | res0C  -- CB 81 RES 0,C R262
  | res0D  -- CB 82 RES 0,D R262
  | res0E  -- CB 83 RES 0,E R262
  | res0H  -- CB 84 RES 0,H R262
  | res0L  -- CB 85 RES 0,L R262
  | res0AtHL  -- CB 86 RES 0,(HL) R263
  | res0A  -- CB 87 RES 0,A R262
  | res1B  -- CB 88 RES 1,B R262
  | res1C  -- CB 89 RES 1,C R262
  | res1D  -- CB 8A RES 1,D R262
  | res1E  -- CB 8B RES 1,E R262
  | res1H  -- CB 8C RES 1,H R262
  | res1L  -- CB 8D RES 1,L R262
  | res1AtHL  -- CB 8E RES 1,(HL) R263
  | res1A  -- CB 8F RES 1,A R262
  | res2B  -- CB 90 RES 2,B R262
  | res2C  -- CB 91 RES 2,C R262
  | res2D  -- CB 92 RES 2,D R262
  | res2E  -- CB 93 RES 2,E R262
  | res2H  -- CB 94 RES 2,H R262
  | res2L  -- CB 95 RES 2,L R262
  | res2AtHL  -- CB 96 RES 2,(HL) R263
  | res2A  -- CB 97 RES 2,A R262
  | res3B  -- CB 98 RES 3,B R262
  | res3C  -- CB 99 RES 3,C R262
  | res3D  -- CB 9A RES 3,D R262
  | res3E  -- CB 9B RES 3,E R262
  | res3H  -- CB 9C RES 3,H R262
  | res3L  -- CB 9D RES 3,L R262
  | res3AtHL  -- CB 9E RES 3,(HL) R263
  | res3A  -- CB 9F RES 3,A R262
  | res4B  -- CB A0 RES 4,B R262
  | res4C  -- CB A1 RES 4,C R262
  | res4D  -- CB A2 RES 4,D R262
  | res4E  -- CB A3 RES 4,E R262
  | res4H  -- CB A4 RES 4,H R262
  | res4L  -- CB A5 RES 4,L R262
  | res4AtHL  -- CB A6 RES 4,(HL) R263
  | res4A  -- CB A7 RES 4,A R262
  | res5B  -- CB A8 RES 5,B R262
  | res5C  -- CB A9 RES 5,C R262
  | res5D  -- CB AA RES 5,D R262
  | res5E  -- CB AB RES 5,E R262
  | res5H  -- CB AC RES 5,H R262
  | res5L  -- CB AD RES 5,L R262
  | res5AtHL  -- CB AE RES 5,(HL) R263
  | res5A  -- CB AF RES 5,A R262
  | res6B  -- CB B0 RES 6,B R262
  | res6C  -- CB B1 RES 6,C R262
  | res6D  -- CB B2 RES 6,D R262
  | res6E  -- CB B3 RES 6,E R262
  | res6H  -- CB B4 RES 6,H R262
  | res6L  -- CB B5 RES 6,L R262
  | res6AtHL  -- CB B6 RES 6,(HL) R263
  | res6A  -- CB B7 RES 6,A R262
  | res7B  -- CB B8 RES 7,B R262
  | res7C  -- CB B9 RES 7,C R262
  | res7D  -- CB BA RES 7,D R262
  | res7E  -- CB BB RES 7,E R262
  | res7H  -- CB BC RES 7,H R262
  | res7L  -- CB BD RES 7,L R262
  | res7AtHL  -- CB BE RES 7,(HL) R263
  | res7A  -- CB BF RES 7,A R262
  | set0B  -- CB C0 SET 0,B R264
  | set0C  -- CB C1 SET 0,C R264
  | set0D  -- CB C2 SET 0,D R264
  | set0E  -- CB C3 SET 0,E R264
  | set0H  -- CB C4 SET 0,H R264
  | set0L  -- CB C5 SET 0,L R264
  | set0AtHL  -- CB C6 SET 0,(HL) R265
  | set0A  -- CB C7 SET 0,A R264
  | set1B  -- CB C8 SET 1,B R264
  | set1C  -- CB C9 SET 1,C R264
  | set1D  -- CB CA SET 1,D R264
  | set1E  -- CB CB SET 1,E R264
  | set1H  -- CB CC SET 1,H R264
  | set1L  -- CB CD SET 1,L R264
  | set1AtHL  -- CB CE SET 1,(HL) R265
  | set1A  -- CB CF SET 1,A R264
  | set2B  -- CB D0 SET 2,B R264
  | set2C  -- CB D1 SET 2,C R264
  | set2D  -- CB D2 SET 2,D R264
  | set2E  -- CB D3 SET 2,E R264
  | set2H  -- CB D4 SET 2,H R264
  | set2L  -- CB D5 SET 2,L R264
  | set2AtHL  -- CB D6 SET 2,(HL) R265
  | set2A  -- CB D7 SET 2,A R264
  | set3B  -- CB D8 SET 3,B R264
  | set3C  -- CB D9 SET 3,C R264
  | set3D  -- CB DA SET 3,D R264
  | set3E  -- CB DB SET 3,E R264
  | set3H  -- CB DC SET 3,H R264
  | set3L  -- CB DD SET 3,L R264
  | set3AtHL  -- CB DE SET 3,(HL) R265
  | set3A  -- CB DF SET 3,A R264
  | set4B  -- CB E0 SET 4,B R264
  | set4C  -- CB E1 SET 4,C R264
  | set4D  -- CB E2 SET 4,D R264
  | set4E  -- CB E3 SET 4,E R264
  | set4H  -- CB E4 SET 4,H R264
  | set4L  -- CB E5 SET 4,L R264
  | set4AtHL  -- CB E6 SET 4,(HL) R265
  | set4A  -- CB E7 SET 4,A R264
  | set5B  -- CB E8 SET 5,B R264
  | set5C  -- CB E9 SET 5,C R264
  | set5D  -- CB EA SET 5,D R264
  | set5E  -- CB EB SET 5,E R264
  | set5H  -- CB EC SET 5,H R264
  | set5L  -- CB ED SET 5,L R264
  | set5AtHL  -- CB EE SET 5,(HL) R265
  | set5A  -- CB EF SET 5,A R264
  | set6B  -- CB F0 SET 6,B R264
  | set6C  -- CB F1 SET 6,C R264
  | set6D  -- CB F2 SET 6,D R264
  | set6E  -- CB F3 SET 6,E R264
  | set6H  -- CB F4 SET 6,H R264
  | set6L  -- CB F5 SET 6,L R264
  | set6AtHL  -- CB F6 SET 6,(HL) R265
  | set6A  -- CB F7 SET 6,A R264
  | set7B  -- CB F8 SET 7,B R264
  | set7C  -- CB F9 SET 7,C R264
  | set7D  -- CB FA SET 7,D R264
  | set7E  -- CB FB SET 7,E R264
  | set7H  -- CB FC SET 7,H R264
  | set7L  -- CB FD SET 7,L R264
  | set7AtHL  -- CB FE SET 7,(HL) R265
  | set7A  -- CB FF SET 7,A R264
  deriving DecidableEq, Repr

end Sys2Proof
end

