-- ==== Sys2Proof/Machine/Flags.lean ====
section
/-! DEFINITION. Every result and flag computation of the arithmetic, logic, rotate and bit families
(10 R30), each from exact integers where its rule computes in unbounded integers (00 R8). -/

namespace Sys2Proof.Machine

/-- `Add8(a, b, c)` (42 R197). -/
def add8 (a b : Byte) (c : Bool) : Byte × Flags :=
  let s := a.toNat + b.toNat + c.toNat
  let r : Byte := BitVec.ofNat 8 s
  (r, { z := decide (r = 0), n := false,
        h := decide (a.toNat % 16 + b.toNat % 16 + c.toNat > 0x0F), c := decide (s > 0xFF) })

/-- `Sub8(a, b, c)` (42 R198). -/
def sub8 (a b : Byte) (c : Bool) : Byte × Flags :=
  let d : Int := (a.toNat : Int) - b.toNat - c.toNat
  let r : Byte := BitVec.ofInt 8 d
  (r, { z := decide (r = 0), n := true,
        h := decide (((a.toNat % 16 : Nat) : Int) - (b.toNat % 16 : Nat) - c.toNat < 0),
        c := decide (d < 0) })

/-- `And8(a, b)` (42 R199). -/
def and8 (a b : Byte) : Byte × Flags :=
  (a &&& b, { z := decide (a &&& b = 0), n := false, h := true, c := false })

/-- `Xor8(a, b)` (42 R199). -/
def xor8 (a b : Byte) : Byte × Flags :=
  (a ^^^ b, { z := decide (a ^^^ b = 0), n := false, h := false, c := false })

/-- `Or8(a, b)` (42 R199). -/
def or8 (a b : Byte) : Byte × Flags :=
  (a ||| b, { z := decide (a ||| b = 0), n := false, h := false, c := false })

/-- The ALU operation on A and an operand with the old carry: the value A takes and the flags
(42 R200-R223; 30 R126). CP leaves A as it was (42 R221). -/
def aluResult (op : AluOp) (a v : Byte) (cy : Bool) : Byte × Flags :=
  match op with
  | .add => add8 a v false
  | .adc => add8 a v cy
  | .sub => sub8 a v false
  | .sbc => sub8 a v cy
  | .and => and8 a v
  | .xor => xor8 a v
  | .or => or8 a v
  | .cp => (a, (sub8 a v false).2)

/-- INC's result and flags; Cy is kept (42 R224). -/
def inc8 (old : Byte) (f : Flags) : Byte × Flags :=
  (old + 1, { z := decide (old + 1 = 0), n := false, h := decide (old &&& 0x0F = 0x0F), c := f.c })

/-- DEC's result and flags; Cy is kept (42 R226). -/
def dec8 (old : Byte) (f : Flags) : Byte × Flags :=
  (old - 1, { z := decide (old - 1 = 0), n := true, h := decide (old &&& 0x0F = 0x00), c := f.c })

/-- DAA (42 R228). After an addition both adjustments are tested, in the rule's order, the second on the
value the first left. -/
def daaResult (a : Byte) (f : Flags) : Byte × Flags :=
  if f.n = false then
    let adjustHi := f.c || decide (a.toNat > 0x99)
    let a1 := if adjustHi then a + 0x60 else a
    let a2 := if f.h || decide ((a1 &&& 0x0F).toNat > 0x09) then a1 + 0x06 else a1
    (a2, { z := decide (a2 = 0), n := f.n, h := false, c := adjustHi })
  else
    let a1 := if f.c then a - 0x60 else a
    let a2 := if f.h then a1 - 0x06 else a1
    (a2, { z := decide (a2 = 0), n := f.n, h := false, c := f.c })

/-- CPL (42 R229). -/
def cplResult (a : Byte) (f : Flags) : Byte × Flags := (~~~a, { f with n := true, h := true })

/-- SCF (42 R230). -/
def scfFlags (f : Flags) : Flags := { f with n := false, h := false, c := true }

/-- CCF (42 R231). -/
def ccfFlags (f : Flags) : Flags := { f with n := false, h := false, c := !f.c }

/-- ADD HL,rr: Z is kept (43 R235). -/
def addHlResult (a b : Word) (f : Flags) : Word × Flags :=
  let s := a.toNat + b.toNat
  (BitVec.ofNat 16 s,
    { z := f.z, n := false, h := decide (a.toNat % 0x1000 + b.toNat % 0x1000 > 0x0FFF),
      c := decide (s > 0xFFFF) })

/-- `AddSPe(e)` (41 R184): the flags come from the unsigned byte e and the low byte of SP. -/
def addSpResult (sp : Word) (e : Byte) : Word × Flags :=
  (sp + sext16 e,
    { z := false, n := false, h := decide (sp.toNat % 16 + e.toNat % 16 > 0x0F),
      c := decide (sp.toNat % 256 + e.toNat > 0xFF) })

/-- `Rot(o, v, c)`: the result and the carry out (44 R239). -/
def rot8 (o : RotOp) (v : Byte) (c : Bool) : Byte × Bool :=
  match o with
  | .rlc => ((v <<< 1) ||| bitAt (bitOf v 7) 0, bitOf v 7)
  | .rrc => ((v >>> 1) ||| bitAt (bitOf v 0) 7, bitOf v 0)
  | .rl => ((v <<< 1) ||| bitAt c 0, bitOf v 7)
  | .rr => ((v >>> 1) ||| bitAt c 7, bitOf v 0)
  | .sla => (v <<< 1, bitOf v 7)
  | .sra => ((v >>> 1) ||| (v &&& 0x80), bitOf v 0)
  | .swap => (((v &&& 0x0F) <<< 4) ||| (v >>> 4), false)
  | .srl => (v >>> 1, bitOf v 0)

/-- The CB-prefixed form: Z from the result (44 R239). -/
def rotResult (o : RotOp) (v : Byte) (c : Bool) : Byte × Flags :=
  let r := rot8 o v c
  (r.1, { z := decide (r.1 = 0), n := false, h := false, c := r.2 })

/-- The accumulator form: Z is 0 always (44 R239, R240). -/
def rotAccResult (o : RotOp) (v : Byte) (c : Bool) : Byte × Flags :=
  let r := rot8 o v c
  (r.1, { z := false, n := false, h := false, c := r.2 })

/-- BIT b: Z is the complement of the bit, Cy is kept (45 R260). -/
def bitFlags (b : Fin 8) (v : Byte) (f : Flags) : Flags :=
  { z := !bitOf v b, n := false, h := true, c := f.c }

/-- RES b: `v & ~(1 << b)` (45 R262). -/
def resBit (b : Fin 8) (v : Byte) : Byte := v &&& ~~~(1#8 <<< (b : Nat))

/-- SET b: `v | (1 << b)` (45 R264). -/
def setBit (b : Fin 8) (v : Byte) : Byte := v ||| (1#8 <<< (b : Nat))

end Sys2Proof.Machine
end

