-- ==== Sys2Proof/WellFormed.lean ====
section
/-! DEFINITION. Well-formedness. Operand widths are in the types, so every immediate value is legal
(30 R134); what is left to check is that an instruction is one the table defines, not one of the eleven
illegal bytes (30 R131), and that a cartridge is one the launch admits (20 R90; 70 R433). -/

namespace Sys2Proof

/-- The opcode byte of an illegal row, and none for a defined instruction (30 R131). -/
def Instr.illegalByte : Instr → Option Byte
  | .illegalD3 => some 0xD3
  | .illegalDB => some 0xDB
  | .illegalDD => some 0xDD
  | .illegalE3 => some 0xE3
  | .illegalE4 => some 0xE4
  | .illegalEB => some 0xEB
  | .illegalEC => some 0xEC
  | .illegalED => some 0xED
  | .illegalF4 => some 0xF4
  | .illegalFC => some 0xFC
  | .illegalFD => some 0xFD
  | _ => none

/-- The instruction has a defined mapping (30 R131). -/
def Instr.wellFormed (i : Instr) : Bool := i.illegalByte.isNone

/-- The launch admits this cartridge (20 R90): NoMBC with 32768 bytes of ROM, or MBC1 with 0x4000 * 2^k
bytes for some k in 1..7. The RAM size is one of the four of 00 R7 by its type. -/
def cartAdmitted (mbc : Mbc) (romBytes : Nat) : Bool :=
  match mbc with
  | .noMbc => romBytes == 32768
  | .mbc1 => [1, 2, 3, 4, 5, 6, 7].any fun k => romBytes == 0x4000 * 2 ^ k

end Sys2Proof
end

