-- ==== Sys2Proof/Decode.lean ====
section
/-! DEFINITION. The decoder, by the fields x, y, z, p, q of an opcode byte (30 R122, R128), and after it the
encoder, from the grids of 30 R129 and R130. -/

namespace Sys2Proof

/-! ### The families: which instruction a register, pair, condition or operation code selects -/

/-- LD r,r' (40 R150). -/
def Instr.ldRegReg : Reg8 → Reg8 → Instr
  | .b, .b => .ldBB | .b, .c => .ldBC | .b, .d => .ldBD | .b, .e => .ldBE | .b, .h => .ldBH | .b, .l => .ldBL | .b, .a => .ldBA
  | .c, .b => .ldCB | .c, .c => .ldCC | .c, .d => .ldCD | .c, .e => .ldCE | .c, .h => .ldCH | .c, .l => .ldCL | .c, .a => .ldCA
  | .d, .b => .ldDB | .d, .c => .ldDC | .d, .d => .ldDD | .d, .e => .ldDE | .d, .h => .ldDH | .d, .l => .ldDL | .d, .a => .ldDA
  | .e, .b => .ldEB | .e, .c => .ldEC | .e, .d => .ldED | .e, .e => .ldEE | .e, .h => .ldEH | .e, .l => .ldEL | .e, .a => .ldEA
  | .h, .b => .ldHB | .h, .c => .ldHC | .h, .d => .ldHD | .h, .e => .ldHE | .h, .h => .ldHH | .h, .l => .ldHL | .h, .a => .ldHA
  | .l, .b => .ldLB | .l, .c => .ldLC | .l, .d => .ldLD | .l, .e => .ldLE | .l, .h => .ldLH | .l, .l => .ldLL | .l, .a => .ldLA
  | .a, .b => .ldAB | .a, .c => .ldAC | .a, .d => .ldAD | .a, .e => .ldAE | .a, .h => .ldAH | .a, .l => .ldAL | .a, .a => .ldAA

/-- LD r,(HL) (40 R151). -/
def Instr.ldRegMem : Reg8 → Instr
  | .b => .ldBAtHL | .c => .ldCAtHL | .d => .ldDAtHL | .e => .ldEAtHL | .h => .ldHAtHL | .l => .ldLAtHL | .a => .ldAAtHL

/-- LD (HL),r (40 R152). -/
def Instr.ldMemReg : Reg8 → Instr
  | .b => .ldAtHLB | .c => .ldAtHLC | .d => .ldAtHLD | .e => .ldAtHLE | .h => .ldAtHLH | .l => .ldAtHLL | .a => .ldAtHLA

/-- LD r,n (40 R153). -/
def Instr.ldRegImm (r : Reg8) (n : Byte) : Instr :=
  match r with
  | .b => .ldBN n | .c => .ldCN n | .d => .ldDN n | .e => .ldEN n | .h => .ldHN n | .l => .ldLN n | .a => .ldAN n

/-- LD rr,nn (41 R181). -/
def Instr.ldPairImm (r : Pair) (nn : Word) : Instr :=
  match r with
  | .bc => .ldBCNn nn | .de => .ldDENn nn | .hl => .ldHLNn nn | .sp => .ldSPNn nn

/-- PUSH rr (41 R187). -/
def Instr.push : StackPair → Instr
  | .bc => .pushBC | .de => .pushDE | .hl => .pushHL | .af => .pushAF

/-- POP rr (41 R188, R189). -/
def Instr.pop : StackPair → Instr
  | .bc => .popBC | .de => .popDE | .hl => .popHL | .af => .popAF

/-- The ALU group on a register (42 R196; 30 R126). -/
def Instr.aluReg : AluOp → Reg8 → Instr
  | .add, .b => .addAB | .add, .c => .addAC | .add, .d => .addAD | .add, .e => .addAE | .add, .h => .addAH | .add, .l => .addAL | .add, .a => .addAA
  | .adc, .b => .adcAB | .adc, .c => .adcAC | .adc, .d => .adcAD | .adc, .e => .adcAE | .adc, .h => .adcAH | .adc, .l => .adcAL | .adc, .a => .adcAA
  | .sub, .b => .subB | .sub, .c => .subC | .sub, .d => .subD | .sub, .e => .subE | .sub, .h => .subH | .sub, .l => .subL | .sub, .a => .subA
  | .sbc, .b => .sbcAB | .sbc, .c => .sbcAC | .sbc, .d => .sbcAD | .sbc, .e => .sbcAE | .sbc, .h => .sbcAH | .sbc, .l => .sbcAL | .sbc, .a => .sbcAA
  | .and, .b => .andB | .and, .c => .andC | .and, .d => .andD | .and, .e => .andE | .and, .h => .andH | .and, .l => .andL | .and, .a => .andA
  | .xor, .b => .xorB | .xor, .c => .xorC | .xor, .d => .xorD | .xor, .e => .xorE | .xor, .h => .xorH | .xor, .l => .xorL | .xor, .a => .xorA
  | .or, .b => .orB | .or, .c => .orC | .or, .d => .orD | .or, .e => .orE | .or, .h => .orH | .or, .l => .orL | .or, .a => .orA
  | .cp, .b => .cpB | .cp, .c => .cpC | .cp, .d => .cpD | .cp, .e => .cpE | .cp, .h => .cpH | .cp, .l => .cpL | .cp, .a => .cpA

/-- The ALU group on (HL) (42 R196). -/
def Instr.aluMem : AluOp → Instr
  | .add => .addAAtHL | .adc => .adcAAtHL | .sub => .subAtHL | .sbc => .sbcAAtHL | .and => .andAtHL | .xor => .xorAtHL | .or => .orAtHL | .cp => .cpAtHL

/-- The ALU group on an immediate (42 R196). -/
def Instr.aluImm (r : AluOp) (n : Byte) : Instr :=
  match r with
  | .add => .addAN n | .adc => .adcAN n | .sub => .subN n | .sbc => .sbcAN n | .and => .andN n | .xor => .xorN n | .or => .orN n | .cp => .cpN n

/-- INC r (42 R224). -/
def Instr.incReg : Reg8 → Instr
  | .b => .incB | .c => .incC | .d => .incD | .e => .incE | .h => .incH | .l => .incL | .a => .incA

/-- DEC r (42 R226). -/
def Instr.decReg : Reg8 → Instr
  | .b => .decB | .c => .decC | .d => .decD | .e => .decE | .h => .decH | .l => .decL | .a => .decA

/-- ADD HL,rr (43 R235). -/
def Instr.addHl : Pair → Instr
  | .bc => .addHLBC | .de => .addHLDE | .hl => .addHLHL | .sp => .addHLSP

/-- INC rr (43 R236). -/
def Instr.incPair : Pair → Instr
  | .bc => .incBC | .de => .incDE | .hl => .incHL | .sp => .incSP

/-- DEC rr (43 R237). -/
def Instr.decPair : Pair → Instr
  | .bc => .decBC | .de => .decDE | .hl => .decHL | .sp => .decSP

/-- The CB rotates and shifts on a register (44 R244-R258). -/
def Instr.rotReg : RotOp → Reg8 → Instr
  | .rlc, .b => .rlcB | .rlc, .c => .rlcC | .rlc, .d => .rlcD | .rlc, .e => .rlcE | .rlc, .h => .rlcH | .rlc, .l => .rlcL | .rlc, .a => .rlcA
  | .rrc, .b => .rrcB | .rrc, .c => .rrcC | .rrc, .d => .rrcD | .rrc, .e => .rrcE | .rrc, .h => .rrcH | .rrc, .l => .rrcL | .rrc, .a => .rrcA
  | .rl, .b => .rlB | .rl, .c => .rlC | .rl, .d => .rlD | .rl, .e => .rlE | .rl, .h => .rlH | .rl, .l => .rlL | .rl, .a => .rlA
  | .rr, .b => .rrB | .rr, .c => .rrC | .rr, .d => .rrD | .rr, .e => .rrE | .rr, .h => .rrH | .rr, .l => .rrL | .rr, .a => .rrA
  | .sla, .b => .slaB | .sla, .c => .slaC | .sla, .d => .slaD | .sla, .e => .slaE | .sla, .h => .slaH | .sla, .l => .slaL | .sla, .a => .slaA
  | .sra, .b => .sraB | .sra, .c => .sraC | .sra, .d => .sraD | .sra, .e => .sraE | .sra, .h => .sraH | .sra, .l => .sraL | .sra, .a => .sraA
  | .swap, .b => .swapB | .swap, .c => .swapC | .swap, .d => .swapD | .swap, .e => .swapE | .swap, .h => .swapH | .swap, .l => .swapL | .swap, .a => .swapA
  | .srl, .b => .srlB | .srl, .c => .srlC | .srl, .d => .srlD | .srl, .e => .srlE | .srl, .h => .srlH | .srl, .l => .srlL | .srl, .a => .srlA

/-- The CB rotates and shifts on (HL) (44 R245-R259). -/
def Instr.rotMem : RotOp → Instr
  | .rlc => .rlcAtHL | .rrc => .rrcAtHL | .rl => .rlAtHL | .rr => .rrAtHL | .sla => .slaAtHL | .sra => .sraAtHL | .swap => .swapAtHL | .srl => .srlAtHL

/-- BIT b,r (45 R260). -/
def Instr.bitReg (n : Fin 8) (r : Reg8) : Instr :=
  match n, r with
  | 0, .b => .bit0B | 0, .c => .bit0C | 0, .d => .bit0D | 0, .e => .bit0E | 0, .h => .bit0H | 0, .l => .bit0L | 0, .a => .bit0A
  | 1, .b => .bit1B | 1, .c => .bit1C | 1, .d => .bit1D | 1, .e => .bit1E | 1, .h => .bit1H | 1, .l => .bit1L | 1, .a => .bit1A
  | 2, .b => .bit2B | 2, .c => .bit2C | 2, .d => .bit2D | 2, .e => .bit2E | 2, .h => .bit2H | 2, .l => .bit2L | 2, .a => .bit2A
  | 3, .b => .bit3B | 3, .c => .bit3C | 3, .d => .bit3D | 3, .e => .bit3E | 3, .h => .bit3H | 3, .l => .bit3L | 3, .a => .bit3A
  | 4, .b => .bit4B | 4, .c => .bit4C | 4, .d => .bit4D | 4, .e => .bit4E | 4, .h => .bit4H | 4, .l => .bit4L | 4, .a => .bit4A
  | 5, .b => .bit5B | 5, .c => .bit5C | 5, .d => .bit5D | 5, .e => .bit5E | 5, .h => .bit5H | 5, .l => .bit5L | 5, .a => .bit5A
  | 6, .b => .bit6B | 6, .c => .bit6C | 6, .d => .bit6D | 6, .e => .bit6E | 6, .h => .bit6H | 6, .l => .bit6L | 6, .a => .bit6A
  | 7, .b => .bit7B | 7, .c => .bit7C | 7, .d => .bit7D | 7, .e => .bit7E | 7, .h => .bit7H | 7, .l => .bit7L | 7, .a => .bit7A

/-- BIT b,(HL) (45 R261). -/
def Instr.bitMem (n : Fin 8) : Instr :=
  match n with
  | 0 => .bit0AtHL | 1 => .bit1AtHL | 2 => .bit2AtHL | 3 => .bit3AtHL | 4 => .bit4AtHL | 5 => .bit5AtHL | 6 => .bit6AtHL | 7 => .bit7AtHL

/-- RES b,r (45 R262). -/
def Instr.resReg (n : Fin 8) (r : Reg8) : Instr :=
  match n, r with
  | 0, .b => .res0B | 0, .c => .res0C | 0, .d => .res0D | 0, .e => .res0E | 0, .h => .res0H | 0, .l => .res0L | 0, .a => .res0A
  | 1, .b => .res1B | 1, .c => .res1C | 1, .d => .res1D | 1, .e => .res1E | 1, .h => .res1H | 1, .l => .res1L | 1, .a => .res1A
  | 2, .b => .res2B | 2, .c => .res2C | 2, .d => .res2D | 2, .e => .res2E | 2, .h => .res2H | 2, .l => .res2L | 2, .a => .res2A
  | 3, .b => .res3B | 3, .c => .res3C | 3, .d => .res3D | 3, .e => .res3E | 3, .h => .res3H | 3, .l => .res3L | 3, .a => .res3A
  | 4, .b => .res4B | 4, .c => .res4C | 4, .d => .res4D | 4, .e => .res4E | 4, .h => .res4H | 4, .l => .res4L | 4, .a => .res4A
  | 5, .b => .res5B | 5, .c => .res5C | 5, .d => .res5D | 5, .e => .res5E | 5, .h => .res5H | 5, .l => .res5L | 5, .a => .res5A
  | 6, .b => .res6B | 6, .c => .res6C | 6, .d => .res6D | 6, .e => .res6E | 6, .h => .res6H | 6, .l => .res6L | 6, .a => .res6A
  | 7, .b => .res7B | 7, .c => .res7C | 7, .d => .res7D | 7, .e => .res7E | 7, .h => .res7H | 7, .l => .res7L | 7, .a => .res7A

/-- RES b,(HL) (45 R263). -/
def Instr.resMem (n : Fin 8) : Instr :=
  match n with
  | 0 => .res0AtHL | 1 => .res1AtHL | 2 => .res2AtHL | 3 => .res3AtHL | 4 => .res4AtHL | 5 => .res5AtHL | 6 => .res6AtHL | 7 => .res7AtHL

/-- SET b,r (45 R264). -/
def Instr.setReg (n : Fin 8) (r : Reg8) : Instr :=
  match n, r with
  | 0, .b => .set0B | 0, .c => .set0C | 0, .d => .set0D | 0, .e => .set0E | 0, .h => .set0H | 0, .l => .set0L | 0, .a => .set0A
  | 1, .b => .set1B | 1, .c => .set1C | 1, .d => .set1D | 1, .e => .set1E | 1, .h => .set1H | 1, .l => .set1L | 1, .a => .set1A
  | 2, .b => .set2B | 2, .c => .set2C | 2, .d => .set2D | 2, .e => .set2E | 2, .h => .set2H | 2, .l => .set2L | 2, .a => .set2A
  | 3, .b => .set3B | 3, .c => .set3C | 3, .d => .set3D | 3, .e => .set3E | 3, .h => .set3H | 3, .l => .set3L | 3, .a => .set3A
  | 4, .b => .set4B | 4, .c => .set4C | 4, .d => .set4D | 4, .e => .set4E | 4, .h => .set4H | 4, .l => .set4L | 4, .a => .set4A
  | 5, .b => .set5B | 5, .c => .set5C | 5, .d => .set5D | 5, .e => .set5E | 5, .h => .set5H | 5, .l => .set5L | 5, .a => .set5A
  | 6, .b => .set6B | 6, .c => .set6C | 6, .d => .set6D | 6, .e => .set6E | 6, .h => .set6H | 6, .l => .set6L | 6, .a => .set6A
  | 7, .b => .set7B | 7, .c => .set7C | 7, .d => .set7D | 7, .e => .set7E | 7, .h => .set7H | 7, .l => .set7L | 7, .a => .set7A

/-- SET b,(HL) (45 R265). -/
def Instr.setMem (n : Fin 8) : Instr :=
  match n with
  | 0 => .set0AtHL | 1 => .set1AtHL | 2 => .set2AtHL | 3 => .set3AtHL | 4 => .set4AtHL | 5 => .set5AtHL | 6 => .set6AtHL | 7 => .set7AtHL

/-- JP cc,nn (46 R272). -/
def Instr.jpCond (r : Cond) (nn : Word) : Instr :=
  match r with
  | .nz => .jpNZ nn | .z => .jpZ nn | .nc => .jpNC nn | .c => .jpC nn

/-- JR cc,e (46 R275). -/
def Instr.jrCond (r : Cond) (e : Byte) : Instr :=
  match r with
  | .nz => .jrNZ e | .z => .jrZ e | .nc => .jrNC e | .c => .jrC e

/-- CALL cc,nn (46 R277). -/
def Instr.callCond (r : Cond) (nn : Word) : Instr :=
  match r with
  | .nz => .callNZ nn | .z => .callZ nn | .nc => .callNC nn | .c => .callC nn

/-- RET cc (46 R279). -/
def Instr.retCond : Cond → Instr
  | .nz => .retNZ | .z => .retZ | .nc => .retNC | .c => .retC

/-- RST t, `t = y * 8` (46 R281). -/
def Instr.rst (y : Fin 8) : Instr :=
  match y with
  | 0 => .rst00 | 1 => .rst08 | 2 => .rst10 | 3 => .rst18 | 4 => .rst20 | 5 => .rst28 | 6 => .rst30 | 7 => .rst38

/-! ### The fields of an opcode byte (30 R122) and the codes they hold -/

/-- `x = op[7:6]`. -/
def fieldX (op : Byte) : Nat := op.toNat / 64

/-- `y = op[5:3]`. -/
def fieldY (op : Byte) : Fin 8 := ⟨op.toNat / 8 % 8, Nat.mod_lt _ (by decide)⟩

/-- `z = op[2:0]`. -/
def fieldZ (op : Byte) : Fin 8 := ⟨op.toNat % 8, Nat.mod_lt _ (by decide)⟩

/-- `p = op[5:4]`. -/
def fieldP (op : Byte) : Fin 4 := ⟨op.toNat / 16 % 4, Nat.mod_lt _ (by decide)⟩

/-- `q = op[3]`. -/
def fieldQ (op : Byte) : Fin 2 := ⟨op.toNat / 8 % 2, Nat.mod_lt _ (by decide)⟩

/-- The register of code r, and none for code 6, which is (HL) (10 R22). -/
def regOfCode (r : Fin 8) : Option Reg8 :=
  match r with
  | 0 => some .b | 1 => some .c | 2 => some .d | 3 => some .e
  | 4 => some .h | 5 => some .l | 6 => none | 7 => some .a

/-- `rp[p]` (10 R23). -/
def pairOfCode (p : Fin 4) : Pair :=
  match p with
  | 0 => .bc | 1 => .de | 2 => .hl | 3 => .sp

/-- `rp2[p]` (10 R23). -/
def stackPairOfCode (p : Fin 4) : StackPair :=
  match p with
  | 0 => .bc | 1 => .de | 2 => .hl | 3 => .af

/-- `cc = y[1:0]` (30 R125). -/
def condOfCode (y : Fin 8) : Cond :=
  match y with
  | 0 | 4 => .nz | 1 | 5 => .z | 2 | 6 => .nc | 3 | 7 => .c

/-- The ALU operation y (30 R126). -/
def aluOfCode (y : Fin 8) : AluOp :=
  match y with
  | 0 => .add | 1 => .adc | 2 => .sub | 3 => .sbc | 4 => .and | 5 => .xor | 6 => .or | 7 => .cp

/-- The rotate or shift y of the CB table (30 R127). -/
def rotOfCode (y : Fin 8) : RotOp :=
  match y with
  | 0 => .rlc | 1 => .rrc | 2 => .rl | 3 => .rr | 4 => .sla | 5 => .sra | 6 => .swap | 7 => .srl

/-! ### Decoding (30 R128), each quarter of the opcode map a function of its own -/

/-- The quarter x = 0, with the two bytes that follow the opcode. -/
def decodeX0 (op b1 b2 : Byte) : Instr :=
  let y := fieldY op
  let p := fieldP op
  match fieldZ op with
  | 0 =>
    match y with
    | 0 => .nop
    | 1 => .ldAtNnSP (pair b2 b1)
    | 2 => .stop
    | 3 => .jr b1
    | 4 | 5 | 6 | 7 => Instr.jrCond (condOfCode y) b1
  | 1 => if fieldQ op = 0 then Instr.ldPairImm (pairOfCode p) (pair b2 b1) else Instr.addHl (pairOfCode p)
  | 2 =>
    if fieldQ op = 0 then
      match p with
      | 0 => .ldAtBCA | 1 => .ldAtDEA | 2 => .ldAtHLIncA | 3 => .ldAtHLDecA
    else
      match p with
      | 0 => .ldAAtBC | 1 => .ldAAtDE | 2 => .ldAAtHLInc | 3 => .ldAAtHLDec
  | 3 => if fieldQ op = 0 then Instr.incPair (pairOfCode p) else Instr.decPair (pairOfCode p)
  | 4 =>
    match regOfCode y with
    | some r => Instr.incReg r
    | none => .incAtHL
  | 5 =>
    match regOfCode y with
    | some r => Instr.decReg r
    | none => .decAtHL
  | 6 =>
    match regOfCode y with
    | some r => Instr.ldRegImm r b1
    | none => .ldAtHLN b1
  | 7 =>
    match y with
    | 0 => .rlca | 1 => .rrca | 2 => .rla | 3 => .rra | 4 => .daa | 5 => .cpl | 6 => .scf | 7 => .ccf

/-- The quarter x = 1: loads, and HALT in the place of LD (HL),(HL) (30 R133). -/
def decodeX1 (op : Byte) : Instr :=
  match regOfCode (fieldY op), regOfCode (fieldZ op) with
  | some dst, some src => Instr.ldRegReg dst src
  | some dst, none => Instr.ldRegMem dst
  | none, some src => Instr.ldMemReg src
  | none, none => .halt

/-- The quarter x = 2: the ALU group. -/
def decodeX2 (op : Byte) : Instr :=
  match regOfCode (fieldZ op) with
  | some r => Instr.aluReg (aluOfCode (fieldY op)) r
  | none => Instr.aluMem (aluOfCode (fieldY op))

/-- The CB page (30 R127, R130): every second byte is a defined instruction (30 R132). -/
def decodeCb (op : Byte) : Instr :=
  let y := fieldY op
  match fieldX op, regOfCode (fieldZ op) with
  | 0, some r => Instr.rotReg (rotOfCode y) r
  | 0, none => Instr.rotMem (rotOfCode y)
  | 1, some r => Instr.bitReg y r
  | 1, none => Instr.bitMem y
  | 2, some r => Instr.resReg y r
  | 2, none => Instr.resMem y
  | _, some r => Instr.setReg y r
  | _, none => Instr.setMem y

/-- The quarter x = 3, with the two bytes that follow the opcode; `b1` is the CB page's second byte. -/
def decodeX3 (op b1 b2 : Byte) : Instr :=
  let y := fieldY op
  let p := fieldP op
  let nn := pair b2 b1
  match fieldZ op with
  | 0 =>
    match y with
    | 0 | 1 | 2 | 3 => Instr.retCond (condOfCode y)
    | 4 => .ldhAtNA b1
    | 5 => .addSPE b1
    | 6 => .ldhAAtN b1
    | 7 => .ldHLSPE b1
  | 1 =>
    if fieldQ op = 0 then Instr.pop (stackPairOfCode p)
    else
      match p with
      | 0 => .ret | 1 => .reti | 2 => .jpHL | 3 => .ldSPHL
  | 2 =>
    match y with
    | 0 | 1 | 2 | 3 => Instr.jpCond (condOfCode y) nn
    | 4 => .ldhAtCA
    | 5 => .ldAtNnA nn
    | 6 => .ldhAAtC
    | 7 => .ldAAtNn nn
  | 3 =>
    match y with
    | 0 => .jp nn
    | 1 => decodeCb b1
    | 2 => .illegalD3
    | 3 => .illegalDB
    | 4 => .illegalE3
    | 5 => .illegalEB
    | 6 => .di
    | 7 => .ei
  | 4 =>
    match y with
    | 0 | 1 | 2 | 3 => Instr.callCond (condOfCode y) nn
    | 4 => .illegalE4
    | 5 => .illegalEC
    | 6 => .illegalF4
    | 7 => .illegalFC
  | 5 =>
    if fieldQ op = 0 then Instr.push (stackPairOfCode p)
    else
      match p with
      | 0 => .call nn | 1 => .illegalDD | 2 => .illegalED | 3 => .illegalFD
  | 6 => Instr.aluImm (aluOfCode y) b1
  | 7 => Instr.rst y

/-- The instruction an opcode byte and the two bytes after it give (30 R128, R137): total, since every
first byte is a defined instruction, the CB byte or an illegal one. -/
def decodeWindow (op b1 b2 : Byte) : Instr :=
  match fieldX op with
  | 0 => decodeX0 op b1 b2
  | 1 => decodeX1 op
  | 2 => decodeX2 op
  | _ => decodeX3 op b1 b2

/-- How many bytes of the window after byte 0 an instruction takes, found from byte 0 alone (30 R136). -/
def lengthOfOpcode (op : Byte) : Nat :=
  if [0xCB, 0x10, 0x06, 0x0E, 0x16, 0x18, 0x1E, 0x20, 0x26, 0x28, 0x2E, 0x30, 0x36, 0x38, 0x3E, 0xC6,
      0xCE, 0xD6, 0xDE, 0xE0, 0xE6, 0xE8, 0xEE, 0xF0, 0xF6, 0xF8, 0xFE].contains op then 2
  else if [0x01, 0x08, 0x11, 0x21, 0x31, 0xC2, 0xC3, 0xC4, 0xCA, 0xCC, 0xCD, 0xD2, 0xD4, 0xDA, 0xDC,
      0xEA, 0xFA].contains op then 3
  else 1

/-- Why a list of bytes holds no instruction. -/
inductive DecodeError where
  /-- The list ends before the instruction does. A fetch never meets it: it reads as many bytes as it
  needs (30 R137). -/
  | truncated
  deriving DecidableEq, Repr

/-- Decode a list of bytes: the instruction and the bytes after it. Total on any bytes (30 R137). -/
def decode : List Byte → Except DecodeError (Instr × List Byte)
  | [] => .error .truncated
  | op :: rest =>
    let n := lengthOfOpcode op - 1
    if rest.length < n then .error .truncated
    else .ok (decodeWindow op (rest.getD 0 0) (rest.getD 1 0), rest.drop n)

/-! ### The codes and the opcode byte, for encoding -/

/-- The code of a register (10 R22). -/
def Reg8.code : Reg8 → Nat
  | .b => 0 | .c => 1 | .d => 2 | .e => 3 | .h => 4 | .l => 5 | .a => 7

/-- The code p of a pair in `rp` (10 R23). -/
def Pair.code : Pair → Nat
  | .bc => 0 | .de => 1 | .hl => 2 | .sp => 3

/-- The code p of a pair in `rp2` (10 R23). -/
def StackPair.code : StackPair → Nat
  | .bc => 0 | .de => 1 | .hl => 2 | .af => 3

/-- The condition code (30 R125). -/
def Cond.code : Cond → Nat
  | .nz => 0 | .z => 1 | .nc => 2 | .c => 3

/-- The ALU operation code (30 R126). -/
def AluOp.code : AluOp → Nat
  | .add => 0 | .adc => 1 | .sub => 2 | .sbc => 3 | .and => 4 | .xor => 5 | .or => 6 | .cp => 7

/-- The rotate and shift code (30 R127). -/
def RotOp.code : RotOp → Nat
  | .rlc => 0 | .rrc => 1 | .rl => 2 | .rr => 3 | .sla => 4 | .sra => 5 | .swap => 6 | .srl => 7

/-- The byte `xxyyyzzz` (30 R122). -/
def opByte (x y z : Nat) : Byte := BitVec.ofNat 8 (64 * x + 8 * y + z)

/-! ### Encoding, from the grids of 30 R129 and R130 -/

/-- The bytes of an instruction, lowest address first. STOP's ignored byte is written 0x00 (30 R135). -/
def encode : Instr → List Byte
  | .nop => [0x00]
  | .ldBCNn nn => [0x01, loByte nn, hiByte nn]
  | .ldAtBCA => [0x02]
  | .incBC => [0x03]
  | .incB => [0x04]
  | .decB => [0x05]
  | .ldBN n => [0x06, n]
  | .rlca => [0x07]
  | .ldAtNnSP nn => [0x08, loByte nn, hiByte nn]
  | .addHLBC => [0x09]
  | .ldAAtBC => [0x0A]
  | .decBC => [0x0B]
  | .incC => [0x0C]
  | .decC => [0x0D]
  | .ldCN n => [0x0E, n]
  | .rrca => [0x0F]
  | .stop => [0x10, 0x00]
  | .ldDENn nn => [0x11, loByte nn, hiByte nn]
  | .ldAtDEA => [0x12]
  | .incDE => [0x13]
  | .incD => [0x14]
  | .decD => [0x15]
  | .ldDN n => [0x16, n]
  | .rla => [0x17]
  | .jr e => [0x18, e]
  | .addHLDE => [0x19]
  | .ldAAtDE => [0x1A]
  | .decDE => [0x1B]
  | .incE => [0x1C]
  | .decE => [0x1D]
  | .ldEN n => [0x1E, n]
  | .rra => [0x1F]
  | .jrNZ e => [0x20, e]
  | .ldHLNn nn => [0x21, loByte nn, hiByte nn]
  | .ldAtHLIncA => [0x22]
  | .incHL => [0x23]
  | .incH => [0x24]
  | .decH => [0x25]
  | .ldHN n => [0x26, n]
  | .daa => [0x27]
  | .jrZ e => [0x28, e]
  | .addHLHL => [0x29]
  | .ldAAtHLInc => [0x2A]
  | .decHL => [0x2B]
  | .incL => [0x2C]
  | .decL => [0x2D]
  | .ldLN n => [0x2E, n]
  | .cpl => [0x2F]
  | .jrNC e => [0x30, e]
  | .ldSPNn nn => [0x31, loByte nn, hiByte nn]
  | .ldAtHLDecA => [0x32]
  | .incSP => [0x33]
  | .incAtHL => [0x34]
  | .decAtHL => [0x35]
  | .ldAtHLN n => [0x36, n]
  | .scf => [0x37]
  | .jrC e => [0x38, e]
  | .addHLSP => [0x39]
  | .ldAAtHLDec => [0x3A]
  | .decSP => [0x3B]
  | .incA => [0x3C]
  | .decA => [0x3D]
  | .ldAN n => [0x3E, n]
  | .ccf => [0x3F]
  | .ldBB => [0x40]
  | .ldBC => [0x41]
  | .ldBD => [0x42]
  | .ldBE => [0x43]
  | .ldBH => [0x44]
  | .ldBL => [0x45]
  | .ldBAtHL => [0x46]
  | .ldBA => [0x47]
  | .ldCB => [0x48]
  | .ldCC => [0x49]
  | .ldCD => [0x4A]
  | .ldCE => [0x4B]
  | .ldCH => [0x4C]
  | .ldCL => [0x4D]
  | .ldCAtHL => [0x4E]
  | .ldCA => [0x4F]
  | .ldDB => [0x50]
  | .ldDC => [0x51]
  | .ldDD => [0x52]
  | .ldDE => [0x53]
  | .ldDH => [0x54]
  | .ldDL => [0x55]
  | .ldDAtHL => [0x56]
  | .ldDA => [0x57]
  | .ldEB => [0x58]
  | .ldEC => [0x59]
  | .ldED => [0x5A]
  | .ldEE => [0x5B]
  | .ldEH => [0x5C]
  | .ldEL => [0x5D]
  | .ldEAtHL => [0x5E]
  | .ldEA => [0x5F]
  | .ldHB => [0x60]
  | .ldHC => [0x61]
  | .ldHD => [0x62]
  | .ldHE => [0x63]
  | .ldHH => [0x64]
  | .ldHL => [0x65]
  | .ldHAtHL => [0x66]
  | .ldHA => [0x67]
  | .ldLB => [0x68]
  | .ldLC => [0x69]
  | .ldLD => [0x6A]
  | .ldLE => [0x6B]
  | .ldLH => [0x6C]
  | .ldLL => [0x6D]
  | .ldLAtHL => [0x6E]
  | .ldLA => [0x6F]
  | .ldAtHLB => [0x70]
  | .ldAtHLC => [0x71]
  | .ldAtHLD => [0x72]
  | .ldAtHLE => [0x73]
  | .ldAtHLH => [0x74]
  | .ldAtHLL => [0x75]
  | .halt => [0x76]
  | .ldAtHLA => [0x77]
  | .ldAB => [0x78]
  | .ldAC => [0x79]
  | .ldAD => [0x7A]
  | .ldAE => [0x7B]
  | .ldAH => [0x7C]
  | .ldAL => [0x7D]
  | .ldAAtHL => [0x7E]
  | .ldAA => [0x7F]
  | .addAB => [0x80]
  | .addAC => [0x81]
  | .addAD => [0x82]
  | .addAE => [0x83]
  | .addAH => [0x84]
  | .addAL => [0x85]
  | .addAAtHL => [0x86]
  | .addAA => [0x87]
  | .adcAB => [0x88]
  | .adcAC => [0x89]
  | .adcAD => [0x8A]
  | .adcAE => [0x8B]
  | .adcAH => [0x8C]
  | .adcAL => [0x8D]
  | .adcAAtHL => [0x8E]
  | .adcAA => [0x8F]
  | .subB => [0x90]
  | .subC => [0x91]
  | .subD => [0x92]
  | .subE => [0x93]
  | .subH => [0x94]
  | .subL => [0x95]
  | .subAtHL => [0x96]
  | .subA => [0x97]
  | .sbcAB => [0x98]
  | .sbcAC => [0x99]
  | .sbcAD => [0x9A]
  | .sbcAE => [0x9B]
  | .sbcAH => [0x9C]
  | .sbcAL => [0x9D]
  | .sbcAAtHL => [0x9E]
  | .sbcAA => [0x9F]
  | .andB => [0xA0]
  | .andC => [0xA1]
  | .andD => [0xA2]
  | .andE => [0xA3]
  | .andH => [0xA4]
  | .andL => [0xA5]
  | .andAtHL => [0xA6]
  | .andA => [0xA7]
  | .xorB => [0xA8]
  | .xorC => [0xA9]
  | .xorD => [0xAA]
  | .xorE => [0xAB]
  | .xorH => [0xAC]
  | .xorL => [0xAD]
  | .xorAtHL => [0xAE]
  | .xorA => [0xAF]
  | .orB => [0xB0]
  | .orC => [0xB1]
  | .orD => [0xB2]
  | .orE => [0xB3]
  | .orH => [0xB4]
  | .orL => [0xB5]
  | .orAtHL => [0xB6]
  | .orA => [0xB7]
  | .cpB => [0xB8]
  | .cpC => [0xB9]
  | .cpD => [0xBA]
  | .cpE => [0xBB]
  | .cpH => [0xBC]
  | .cpL => [0xBD]
  | .cpAtHL => [0xBE]
  | .cpA => [0xBF]
  | .retNZ => [0xC0]
  | .popBC => [0xC1]
  | .jpNZ nn => [0xC2, loByte nn, hiByte nn]
  | .jp nn => [0xC3, loByte nn, hiByte nn]
  | .callNZ nn => [0xC4, loByte nn, hiByte nn]
  | .pushBC => [0xC5]
  | .addAN n => [0xC6, n]
  | .rst00 => [0xC7]
  | .retZ => [0xC8]
  | .ret => [0xC9]
  | .jpZ nn => [0xCA, loByte nn, hiByte nn]
  | .callZ nn => [0xCC, loByte nn, hiByte nn]
  | .call nn => [0xCD, loByte nn, hiByte nn]
  | .adcAN n => [0xCE, n]
  | .rst08 => [0xCF]
  | .retNC => [0xD0]
  | .popDE => [0xD1]
  | .jpNC nn => [0xD2, loByte nn, hiByte nn]
  | .illegalD3 => [0xD3]
  | .callNC nn => [0xD4, loByte nn, hiByte nn]
  | .pushDE => [0xD5]
  | .subN n => [0xD6, n]
  | .rst10 => [0xD7]
  | .retC => [0xD8]
  | .reti => [0xD9]
  | .jpC nn => [0xDA, loByte nn, hiByte nn]
  | .illegalDB => [0xDB]
  | .callC nn => [0xDC, loByte nn, hiByte nn]
  | .illegalDD => [0xDD]
  | .sbcAN n => [0xDE, n]
  | .rst18 => [0xDF]
  | .ldhAtNA n => [0xE0, n]
  | .popHL => [0xE1]
  | .ldhAtCA => [0xE2]
  | .illegalE3 => [0xE3]
  | .illegalE4 => [0xE4]
  | .pushHL => [0xE5]
  | .andN n => [0xE6, n]
  | .rst20 => [0xE7]
  | .addSPE e => [0xE8, e]
  | .jpHL => [0xE9]
  | .ldAtNnA nn => [0xEA, loByte nn, hiByte nn]
  | .illegalEB => [0xEB]
  | .illegalEC => [0xEC]
  | .illegalED => [0xED]
  | .xorN n => [0xEE, n]
  | .rst28 => [0xEF]
  | .ldhAAtN n => [0xF0, n]
  | .popAF => [0xF1]
  | .ldhAAtC => [0xF2]
  | .di => [0xF3]
  | .illegalF4 => [0xF4]
  | .pushAF => [0xF5]
  | .orN n => [0xF6, n]
  | .rst30 => [0xF7]
  | .ldHLSPE e => [0xF8, e]
  | .ldSPHL => [0xF9]
  | .ldAAtNn nn => [0xFA, loByte nn, hiByte nn]
  | .ei => [0xFB]
  | .illegalFC => [0xFC]
  | .illegalFD => [0xFD]
  | .cpN n => [0xFE, n]
  | .rst38 => [0xFF]
  | .rlcB => [0xCB, 0x00]
  | .rlcC => [0xCB, 0x01]
  | .rlcD => [0xCB, 0x02]
  | .rlcE => [0xCB, 0x03]
  | .rlcH => [0xCB, 0x04]
  | .rlcL => [0xCB, 0x05]
  | .rlcAtHL => [0xCB, 0x06]
  | .rlcA => [0xCB, 0x07]
  | .rrcB => [0xCB, 0x08]
  | .rrcC => [0xCB, 0x09]
  | .rrcD => [0xCB, 0x0A]
  | .rrcE => [0xCB, 0x0B]
  | .rrcH => [0xCB, 0x0C]
  | .rrcL => [0xCB, 0x0D]
  | .rrcAtHL => [0xCB, 0x0E]
  | .rrcA => [0xCB, 0x0F]
  | .rlB => [0xCB, 0x10]
  | .rlC => [0xCB, 0x11]
  | .rlD => [0xCB, 0x12]
  | .rlE => [0xCB, 0x13]
  | .rlH => [0xCB, 0x14]
  | .rlL => [0xCB, 0x15]
  | .rlAtHL => [0xCB, 0x16]
  | .rlA => [0xCB, 0x17]
  | .rrB => [0xCB, 0x18]
  | .rrC => [0xCB, 0x19]
  | .rrD => [0xCB, 0x1A]
  | .rrE => [0xCB, 0x1B]
  | .rrH => [0xCB, 0x1C]
  | .rrL => [0xCB, 0x1D]
  | .rrAtHL => [0xCB, 0x1E]
  | .rrA => [0xCB, 0x1F]
  | .slaB => [0xCB, 0x20]
  | .slaC => [0xCB, 0x21]
  | .slaD => [0xCB, 0x22]
  | .slaE => [0xCB, 0x23]
  | .slaH => [0xCB, 0x24]
  | .slaL => [0xCB, 0x25]
  | .slaAtHL => [0xCB, 0x26]
  | .slaA => [0xCB, 0x27]
  | .sraB => [0xCB, 0x28]
  | .sraC => [0xCB, 0x29]
  | .sraD => [0xCB, 0x2A]
  | .sraE => [0xCB, 0x2B]
  | .sraH => [0xCB, 0x2C]
  | .sraL => [0xCB, 0x2D]
  | .sraAtHL => [0xCB, 0x2E]
  | .sraA => [0xCB, 0x2F]
  | .swapB => [0xCB, 0x30]
  | .swapC => [0xCB, 0x31]
  | .swapD => [0xCB, 0x32]
  | .swapE => [0xCB, 0x33]
  | .swapH => [0xCB, 0x34]
  | .swapL => [0xCB, 0x35]
  | .swapAtHL => [0xCB, 0x36]
  | .swapA => [0xCB, 0x37]
  | .srlB => [0xCB, 0x38]
  | .srlC => [0xCB, 0x39]
  | .srlD => [0xCB, 0x3A]
  | .srlE => [0xCB, 0x3B]
  | .srlH => [0xCB, 0x3C]
  | .srlL => [0xCB, 0x3D]
  | .srlAtHL => [0xCB, 0x3E]
  | .srlA => [0xCB, 0x3F]
  | .bit0B => [0xCB, 0x40]
  | .bit0C => [0xCB, 0x41]
  | .bit0D => [0xCB, 0x42]
  | .bit0E => [0xCB, 0x43]
  | .bit0H => [0xCB, 0x44]
  | .bit0L => [0xCB, 0x45]
  | .bit0AtHL => [0xCB, 0x46]
  | .bit0A => [0xCB, 0x47]
  | .bit1B => [0xCB, 0x48]
  | .bit1C => [0xCB, 0x49]
  | .bit1D => [0xCB, 0x4A]
  | .bit1E => [0xCB, 0x4B]
  | .bit1H => [0xCB, 0x4C]
  | .bit1L => [0xCB, 0x4D]
  | .bit1AtHL => [0xCB, 0x4E]
  | .bit1A => [0xCB, 0x4F]
  | .bit2B => [0xCB, 0x50]
  | .bit2C => [0xCB, 0x51]
  | .bit2D => [0xCB, 0x52]
  | .bit2E => [0xCB, 0x53]
  | .bit2H => [0xCB, 0x54]
  | .bit2L => [0xCB, 0x55]
  | .bit2AtHL => [0xCB, 0x56]
  | .bit2A => [0xCB, 0x57]
  | .bit3B => [0xCB, 0x58]
  | .bit3C => [0xCB, 0x59]
  | .bit3D => [0xCB, 0x5A]
  | .bit3E => [0xCB, 0x5B]
  | .bit3H => [0xCB, 0x5C]
  | .bit3L => [0xCB, 0x5D]
  | .bit3AtHL => [0xCB, 0x5E]
  | .bit3A => [0xCB, 0x5F]
  | .bit4B => [0xCB, 0x60]
  | .bit4C => [0xCB, 0x61]
  | .bit4D => [0xCB, 0x62]
  | .bit4E => [0xCB, 0x63]
  | .bit4H => [0xCB, 0x64]
  | .bit4L => [0xCB, 0x65]
  | .bit4AtHL => [0xCB, 0x66]
  | .bit4A => [0xCB, 0x67]
  | .bit5B => [0xCB, 0x68]
  | .bit5C => [0xCB, 0x69]
  | .bit5D => [0xCB, 0x6A]
  | .bit5E => [0xCB, 0x6B]
  | .bit5H => [0xCB, 0x6C]
  | .bit5L => [0xCB, 0x6D]
  | .bit5AtHL => [0xCB, 0x6E]
  | .bit5A => [0xCB, 0x6F]
  | .bit6B => [0xCB, 0x70]
  | .bit6C => [0xCB, 0x71]
  | .bit6D => [0xCB, 0x72]
  | .bit6E => [0xCB, 0x73]
  | .bit6H => [0xCB, 0x74]
  | .bit6L => [0xCB, 0x75]
  | .bit6AtHL => [0xCB, 0x76]
  | .bit6A => [0xCB, 0x77]
  | .bit7B => [0xCB, 0x78]
  | .bit7C => [0xCB, 0x79]
  | .bit7D => [0xCB, 0x7A]
  | .bit7E => [0xCB, 0x7B]
  | .bit7H => [0xCB, 0x7C]
  | .bit7L => [0xCB, 0x7D]
  | .bit7AtHL => [0xCB, 0x7E]
  | .bit7A => [0xCB, 0x7F]
  | .res0B => [0xCB, 0x80]
  | .res0C => [0xCB, 0x81]
  | .res0D => [0xCB, 0x82]
  | .res0E => [0xCB, 0x83]
  | .res0H => [0xCB, 0x84]
  | .res0L => [0xCB, 0x85]
  | .res0AtHL => [0xCB, 0x86]
  | .res0A => [0xCB, 0x87]
  | .res1B => [0xCB, 0x88]
  | .res1C => [0xCB, 0x89]
  | .res1D => [0xCB, 0x8A]
  | .res1E => [0xCB, 0x8B]
  | .res1H => [0xCB, 0x8C]
  | .res1L => [0xCB, 0x8D]
  | .res1AtHL => [0xCB, 0x8E]
  | .res1A => [0xCB, 0x8F]
  | .res2B => [0xCB, 0x90]
  | .res2C => [0xCB, 0x91]
  | .res2D => [0xCB, 0x92]
  | .res2E => [0xCB, 0x93]
  | .res2H => [0xCB, 0x94]
  | .res2L => [0xCB, 0x95]
  | .res2AtHL => [0xCB, 0x96]
  | .res2A => [0xCB, 0x97]
  | .res3B => [0xCB, 0x98]
  | .res3C => [0xCB, 0x99]
  | .res3D => [0xCB, 0x9A]
  | .res3E => [0xCB, 0x9B]
  | .res3H => [0xCB, 0x9C]
  | .res3L => [0xCB, 0x9D]
  | .res3AtHL => [0xCB, 0x9E]
  | .res3A => [0xCB, 0x9F]
  | .res4B => [0xCB, 0xA0]
  | .res4C => [0xCB, 0xA1]
  | .res4D => [0xCB, 0xA2]
  | .res4E => [0xCB, 0xA3]
  | .res4H => [0xCB, 0xA4]
  | .res4L => [0xCB, 0xA5]
  | .res4AtHL => [0xCB, 0xA6]
  | .res4A => [0xCB, 0xA7]
  | .res5B => [0xCB, 0xA8]
  | .res5C => [0xCB, 0xA9]
  | .res5D => [0xCB, 0xAA]
  | .res5E => [0xCB, 0xAB]
  | .res5H => [0xCB, 0xAC]
  | .res5L => [0xCB, 0xAD]
  | .res5AtHL => [0xCB, 0xAE]
  | .res5A => [0xCB, 0xAF]
  | .res6B => [0xCB, 0xB0]
  | .res6C => [0xCB, 0xB1]
  | .res6D => [0xCB, 0xB2]
  | .res6E => [0xCB, 0xB3]
  | .res6H => [0xCB, 0xB4]
  | .res6L => [0xCB, 0xB5]
  | .res6AtHL => [0xCB, 0xB6]
  | .res6A => [0xCB, 0xB7]
  | .res7B => [0xCB, 0xB8]
  | .res7C => [0xCB, 0xB9]
  | .res7D => [0xCB, 0xBA]
  | .res7E => [0xCB, 0xBB]
  | .res7H => [0xCB, 0xBC]
  | .res7L => [0xCB, 0xBD]
  | .res7AtHL => [0xCB, 0xBE]
  | .res7A => [0xCB, 0xBF]
  | .set0B => [0xCB, 0xC0]
  | .set0C => [0xCB, 0xC1]
  | .set0D => [0xCB, 0xC2]
  | .set0E => [0xCB, 0xC3]
  | .set0H => [0xCB, 0xC4]
  | .set0L => [0xCB, 0xC5]
  | .set0AtHL => [0xCB, 0xC6]
  | .set0A => [0xCB, 0xC7]
  | .set1B => [0xCB, 0xC8]
  | .set1C => [0xCB, 0xC9]
  | .set1D => [0xCB, 0xCA]
  | .set1E => [0xCB, 0xCB]
  | .set1H => [0xCB, 0xCC]
  | .set1L => [0xCB, 0xCD]
  | .set1AtHL => [0xCB, 0xCE]
  | .set1A => [0xCB, 0xCF]
  | .set2B => [0xCB, 0xD0]
  | .set2C => [0xCB, 0xD1]
  | .set2D => [0xCB, 0xD2]
  | .set2E => [0xCB, 0xD3]
  | .set2H => [0xCB, 0xD4]
  | .set2L => [0xCB, 0xD5]
  | .set2AtHL => [0xCB, 0xD6]
  | .set2A => [0xCB, 0xD7]
  | .set3B => [0xCB, 0xD8]
  | .set3C => [0xCB, 0xD9]
  | .set3D => [0xCB, 0xDA]
  | .set3E => [0xCB, 0xDB]
  | .set3H => [0xCB, 0xDC]
  | .set3L => [0xCB, 0xDD]
  | .set3AtHL => [0xCB, 0xDE]
  | .set3A => [0xCB, 0xDF]
  | .set4B => [0xCB, 0xE0]
  | .set4C => [0xCB, 0xE1]
  | .set4D => [0xCB, 0xE2]
  | .set4E => [0xCB, 0xE3]
  | .set4H => [0xCB, 0xE4]
  | .set4L => [0xCB, 0xE5]
  | .set4AtHL => [0xCB, 0xE6]
  | .set4A => [0xCB, 0xE7]
  | .set5B => [0xCB, 0xE8]
  | .set5C => [0xCB, 0xE9]
  | .set5D => [0xCB, 0xEA]
  | .set5E => [0xCB, 0xEB]
  | .set5H => [0xCB, 0xEC]
  | .set5L => [0xCB, 0xED]
  | .set5AtHL => [0xCB, 0xEE]
  | .set5A => [0xCB, 0xEF]
  | .set6B => [0xCB, 0xF0]
  | .set6C => [0xCB, 0xF1]
  | .set6D => [0xCB, 0xF2]
  | .set6E => [0xCB, 0xF3]
  | .set6H => [0xCB, 0xF4]
  | .set6L => [0xCB, 0xF5]
  | .set6AtHL => [0xCB, 0xF6]
  | .set6A => [0xCB, 0xF7]
  | .set7B => [0xCB, 0xF8]
  | .set7C => [0xCB, 0xF9]
  | .set7D => [0xCB, 0xFA]
  | .set7E => [0xCB, 0xFB]
  | .set7H => [0xCB, 0xFC]
  | .set7L => [0xCB, 0xFD]
  | .set7AtHL => [0xCB, 0xFE]
  | .set7A => [0xCB, 0xFF]

/-- The length in bytes of an instruction's encoding (30 R120). -/
def Instr.length (i : Instr) : Nat := (encode i).length

/-- The three bytes at the address of an instruction whose bits are `w`, later bytes 0. The bytes of `w`
count up from its least significant one, except that the table's CB rows put the CB byte in bits 15..8
and the second byte in bits 7..0 (log entry 14). -/
def tableBytes (nbits w : Nat) : List Byte :=
  if nbits = 16 ∧ w / 256 % 256 = 0xCB then [0xCB, BitVec.ofNat 8 w, 0]
  else [BitVec.ofNat 8 w, BitVec.ofNat 8 (w / 256), BitVec.ofNat 8 (w / 65536)]

/-- The instruction the decoder reads from a word numbered as spec/opcode_table.json numbers it. -/
def decodeTableWord (nbits w : Nat) : Option Instr :=
  match decode (tableBytes nbits w) with
  | .ok (i, _) => some i
  | .error _ => none

end Sys2Proof
end

