-- ==== Sys2Proof/Machine/Banking.lean ====
section
/-! DEFINITION. The cartridge bank controller: NoMBC and MBC1 (20 R90-R96). -/

namespace Sys2Proof.Machine

/-- The ROM bank at 0x0000-0x3FFF (20 R63, R91, R93). -/
def Cart.romBankLo (c : Cart) : Nat :=
  match c.mbc with
  | .noMbc => 0
  | .mbc1 => (if c.mode then c.bank2.toNat * 32 else 0) % c.romBanks

/-- The ROM bank at 0x4000-0x7FFF (20 R64, R91, R94). -/
def Cart.romBankHi (c : Cart) : Nat :=
  match c.mbc with
  | .noMbc => 1
  | .mbc1 => (c.bank2.toNat * 32 + c.bank1.toNat) % c.romBanks

/-- Whether external RAM answers (20 R91, R95). -/
def Cart.ramOpen (c : Cart) : Bool :=
  match c.mbc with
  | .noMbc => c.ramSize != .none
  | .mbc1 => c.ramEnable && c.ramSize != .none

/-- The offset into external RAM of an address `0xA000 + off` (20 R91, R95, R96). With P_RAM_SIZE = 0 there is
no such offset, and the unreduced one answered is the model's own (log entry 26). -/
def Cart.ramOffset (c : Cart) (off : Nat) : Nat :=
  match c.mbc with
  | .noMbc => off % c.ramSize.bytes
  | .mbc1 => ((if c.mode then c.bank2.toNat else 0) * 0x2000 + off) % c.ramSize.bytes

/-- MBC1's `bank1 <- v[4:0]`, with 0 remapped to 1 (20 R92). -/
def bank1Of (v : Byte) : BitVec 5 :=
  let b : BitVec 5 := v.setWidth 5
  if b = 0 then 1 else b

/-- `handleBankingWrite(addr, v)` (20 R65, R91, R92). -/
def Cart.bankingWrite (c : Cart) (addr : Nat) (v : Byte) : Cart :=
  match c.mbc with
  | .noMbc => c
  | .mbc1 =>
    if addr < 0x2000 then { c with ramEnable := decide (v &&& 0x0F = 0x0A) }
    else if addr < 0x4000 then { c with bank1 := bank1Of v }
    else if addr < 0x6000 then { c with bank2 := v.setWidth 2 }
    else { c with mode := bitOf v 0 }

/-- A read of external RAM at `0xA000 + off`: 0xFF when disabled or absent (20 R67). -/
def Cart.readRam (c : Cart) (off : Nat) : Byte :=
  if c.ramOpen then Store.get c.ram (c.ramOffset off) else 0xFF

/-- A write to external RAM at `0xA000 + off`: dropped when disabled or absent (20 R67). -/
def Cart.writeRam (c : Cart) (off : Nat) (v : Byte) : Cart :=
  if c.ramOpen then { c with ram := Store.set c.ram (c.ramOffset off) v } else c

end Sys2Proof.Machine
end

