-- ==== Sys2Proof/Machine/Operands.lean ====
section
/-! DEFINITION. Reading and writing the registers: the 8-bit codes (10 R22), the pairs (10 R20, R23), F as a
byte (10 R21), PC and the cost. Every register has one home in `Cpu` and is reached through these. -/

namespace Sys2Proof.Machine

/-- F as a byte: the flags in bits 7 to 4, bits 3-0 read 0 (10 R21). -/
def Flags.toByte (f : Flags) : Byte :=
  bitAt f.z 7 ||| bitAt f.n 6 ||| bitAt f.h 5 ||| bitAt f.c 4

/-- A byte written to F: bits 3-0 are dropped (10 R21). -/
def Flags.ofByte (v : Byte) : Flags :=
  { z := bitOf v 7, n := bitOf v 6, h := bitOf v 5, c := bitOf v 4 }

/-- Replace the CPU. -/
def State.setCpu (s : State) (c : Cpu) : State := { s with cpu := c }
/-- Replace the timer. -/
def State.setTimer (s : State) (t : Timer) : State := { s with timer := t }
/-- Replace the PPU. -/
def State.setPpu (s : State) (p : Ppu) : State := { s with ppu := p }
/-- Replace the cartridge. -/
def State.setCart (s : State) (c : Cart) : State := { s with cart := c }
/-- Replace the joypad. -/
def State.setPad (s : State) (j : Joypad) : State := { s with pad := j }
/-- Replace the serial registers. -/
def State.setSerial (s : State) (x : Serial) : State := { s with serial := x }
/-- Replace the interrupt registers. -/
def State.setIrq (s : State) (q : Irq) : State := { s with irq := q }
/-- Replace the console's memories. -/
def State.setMem (s : State) (m : Mem) : State := { s with mem := m }
/-- Replace the cost. -/
def State.setCost (s : State) (n : Nat) : State := { s with cost := n }

/-- `x[i]` for a register code (00 R9; 10 R22). -/
def Cpu.get (k : Cpu) : Reg8 → Byte
  | .b => k.b | .c => k.c | .d => k.d | .e => k.e | .h => k.h | .l => k.l | .a => k.a

/-- `x[i] <- v` for a register code (00 R9; 10 R22). -/
def Cpu.set (k : Cpu) (r : Reg8) (v : Byte) : Cpu :=
  match r with
  | .b => { k with b := v } | .c => { k with c := v } | .d => { k with d := v }
  | .e => { k with e := v } | .h => { k with h := v } | .l => { k with l := v }
  | .a => { k with a := v }

/-- `rp[p]` (10 R23). -/
def Cpu.getPair (k : Cpu) : Pair → Word
  | .bc => pair k.b k.c
  | .de => pair k.d k.e
  | .hl => pair k.h k.l
  | .sp => k.sp

/-- `rp[p] <- v`: both halves are written (10 R20, R23). -/
def Cpu.setPair (k : Cpu) (p : Pair) (v : Word) : Cpu :=
  match p with
  | .bc => { k with b := hiByte v, c := loByte v }
  | .de => { k with d := hiByte v, e := loByte v }
  | .hl => { k with h := hiByte v, l := loByte v }
  | .sp => { k with sp := v }

/-- `rp2[p]` (10 R23). -/
def Cpu.getStackPair (k : Cpu) : StackPair → Word
  | .bc => pair k.b k.c
  | .de => pair k.d k.e
  | .hl => pair k.h k.l
  | .af => pair k.a k.f.toByte

/-- `rp2[p] <- v`; AF drops the low nibble of F (10 R21; 41 R189). -/
def Cpu.setStackPair (k : Cpu) (p : StackPair) (v : Word) : Cpu :=
  match p with
  | .bc => { k with b := hiByte v, c := loByte v }
  | .de => { k with d := hiByte v, e := loByte v }
  | .hl => { k with h := hiByte v, l := loByte v }
  | .af => { k with a := hiByte v, f := Flags.ofByte (loByte v) }

/-- `cond(cc)` (30 R125; 46 R270). -/
def Flags.holds (f : Flags) : Cond → Bool
  | .nz => !f.z
  | .z => f.z
  | .nc => !f.c
  | .c => f.c

/-- A register's value. -/
def State.reg (s : State) (r : Reg8) : Byte := s.cpu.get r
/-- Write a register. -/
def State.setReg (s : State) (r : Reg8) (v : Byte) : State := s.setCpu (s.cpu.set r v)
/-- A pair's value. -/
def State.pairOf (s : State) (p : Pair) : Word := s.cpu.getPair p
/-- Write a pair. -/
def State.setPair (s : State) (p : Pair) (v : Word) : State := s.setCpu (s.cpu.setPair p v)
/-- HL, the memory pointer (10 R20). -/
def State.hl (s : State) : Word := s.cpu.getPair .hl
/-- Write the flags. -/
def State.setFlags (s : State) (f : Flags) : State := s.setCpu { s.cpu with f := f }
/-- `PC <- target` (00 R10). -/
def State.setPc (s : State) (v : Word) : State := s.setCpu { s.cpu with pc := v }
/-- `SP <- v`. -/
def State.setSp (s : State) (v : Word) : State := s.setCpu { s.cpu with sp := v }
/-- `run <- r`. -/
def State.setRun (s : State) (r : Run) : State := s.setCpu { s.cpu with run := r }

/-- `cost <- n` on top of what a DMA write of the same instruction has added (60 R311). -/
def State.charge (s : State) (n : Nat) : State := s.setCost (s.cost + n)

/-- The address of the byte after the opcode byte as this fetch leaves PC: the halt bug leaves PC at the
opcode byte (60 R311; 47 R291). -/
def Cpu.pcAfterOpcode (k : Cpu) : Word := if k.haltBug then k.pc else k.pc + 1

/-- The instruction's bytes fetched (60 R311): PC past all `len` of them, one less under the halt bug,
which this fetch clears (10 R25, R29); the cost starts from 0. -/
def State.advance (s : State) (len : Nat) : State :=
  (s.setCpu
    { s.cpu with pc := s.cpu.pcAfterOpcode + BitVec.ofNat 16 (len - 1), haltBug := false }).setCost 0

end Sys2Proof.Machine
end

