-- ==== Sys2Proof/Machine/Ppu.lean ====
section
/-! DEFINITION. The PPU: mode machine, STAT line, OAM scan and the compositor (65 R370-R399). It reads VRAM
and OAM directly, never through the contention check (65 R397). Each function takes the memories it
reads, and P_MODE3_LEN as a function of the PPU at dot 80, and answers the new PPU and what it requests. -/

namespace Sys2Proof.Machine

/-- LCDC bit 7, the LCD enable (10 R42). -/
def Ppu.lcdOn (p : Ppu) : Bool := bitOf p.lcdc 7

/-- The number STAT bits 1-0 report (65 R370). -/
def Mode.code : Mode → Byte
  | .hblank => 0
  | .vblank => 1
  | .oamScan => 2
  | .drawing => 3

/-- The mode as a function of line, dot and Drawing length with the LCD on (65 R372). -/
def modeAt (ly dot drawLen : Nat) : Mode :=
  if 144 ≤ ly then .vblank
  else if dot < 80 then .oamScan
  else if dot < 80 + drawLen then .drawing
  else .hblank

/-- LY as the CPU reads it (10 R45). -/
def Ppu.lyByte (p : Ppu) : Byte := BitVec.ofNat 8 p.ly

/-- `coincidence` (65 R376). -/
def Ppu.coincidence (p : Ppu) : Bool := decide (p.ly = p.lyc.toNat)

/-- The combined STAT line (65 R378). `stat` bit 3 is STAT[6], bit 2 STAT[5], bit 1 STAT[4], bit 0 STAT[3]. -/
def Ppu.statLevel (p : Ppu) : Bool :=
  p.lcdOn &&
    ((p.stat.getLsbD 3 && p.coincidence) || (p.stat.getLsbD 2 && decide (p.mode = .oamScan)) ||
      (p.stat.getLsbD 1 && decide (p.mode = .vblank)) || (p.stat.getLsbD 0 && decide (p.mode = .hblank)))

/-- `UpdateStat()`, and whether it requests LCD-STAT: only on a rising edge (65 R378). -/
def Ppu.updateStat (p : Ppu) : Ppu × Bool :=
  ({ p with statLine := p.statLevel }, p.statLevel && !p.statLine)

/-- The object height LCDC bit 2 selects (65 R379, R392). -/
def Ppu.objHeight (p : Ppu) : Nat := if bitOf p.lcdc 2 then 16 else 8

/-- A byte of OAM as a number (65 R380). -/
def oamAt (oam : Memory) (i : Nat) : Nat := (Store.get oam i).toNat

/-- Whether OAM entry i covers the line (65 R379). -/
def objOnLine (oam : Memory) (ly height i : Nat) : Bool :=
  let y := oamAt oam (4 * i)
  decide (y ≤ ly + 16 ∧ ly + 16 < y + height)

/-- `OamScan(ly)`: the first ten covering entries in table order; X is not tested (65 R379). -/
def oamScan (oam : Memory) (ly height : Nat) : List Nat :=
  ((List.range 40).filter (objOnLine oam ly height)).take 10

/-- `window_on` (65 R385). -/
def Ppu.windowOn (p : Ppu) : Bool :=
  bitOf p.lcdc 5 && bitOf p.lcdc 0 && p.wyHit && decide (p.wx.toNat ≤ 166)

/-- P_MODE3_LEN's default formula, on the state at dot 80 (65 R383). -/
def mode3Len (scx : Byte) (windowOn objsOn : Bool) (nObjs : Nat) : Nat :=
  min (172 + scx.toNat % 8 + (if windowOn then 6 else 0) + (if objsOn then 6 * nObjs else 0)) 289

/-- P_MODE3_LEN of a state whose PPU at dot 80 is `q`: the default formula, or the parameter's own function of
that state (00 R7; 65 R383). -/
def State.mode3Len (s : State) (q : Ppu) : Nat :=
  match s.params.mode3Len with
  | .formula => Machine.mode3Len q.scx q.windowOn (bitOf q.lcdc 1) q.objs.length
  | .other k => 172 + (Config.drawLen k { s with ppu := q }).val

/-- `TilePixel(base, r, x)`, the tile data at VRAM offset `base` (65 R387). -/
def tilePixel (vram : Memory) (base row col : Nat) : Nat :=
  let bitAtCol (v : Byte) : Nat := (bitOf v (7 - col)).toNat
  2 * bitAtCol (Store.get vram (base + 2 * row + 1)) + bitAtCol (Store.get vram (base + 2 * row))

/-- `BgTileAddr(t)` as a VRAM offset (65 R387): 0x8000 + 16t, or 0x9000 + 16 * sext(t). -/
def bgTileOffset (unsignedTiles : Bool) (t : Byte) : Nat :=
  if unsignedTiles then 16 * t.toNat else (0x1000 + 16 * t.toInt).toNat

/-- The colour index of a cell of a tile map at pixel (px, py) of the map (65 R384-R386). -/
def mapPixel (vram : Memory) (hiMap unsignedTiles : Bool) (px py : Nat) : Nat :=
  let map := if hiMap then 0x1C00 else 0x1800
  let t := Store.get vram (map + 32 * (py / 8) + px / 8)
  tilePixel vram (bgTileOffset unsignedTiles t) (py % 8) (px % 8)

/-- The background's colour index at screen pixel (sx, ly) (65 R384). -/
def Ppu.bgColor (vram : Memory) (p : Ppu) (sx : Nat) : Nat :=
  mapPixel vram (bitOf p.lcdc 3) (bitOf p.lcdc 4) ((sx + p.scx.toNat) % 256) ((p.ly + p.scy.toNat) % 256)

/-- The window's colour index at screen pixel sx, on a line and column it covers (65 R385). -/
def Ppu.winColor (vram : Memory) (p : Ppu) (sx : Nat) : Nat :=
  mapPixel vram (bitOf p.lcdc 6) (bitOf p.lcdc 4) (sx + 7 - p.wx.toNat) p.winLine

/-- `Shade(pal, c) = (pal >> (2c)) & 3` (65 R393). -/
def shade (pal : Byte) (c : Nat) : BitVec 2 := (pal >>> (2 * c)).setWidth 2

/-- An object's pixel that may win: its X, its OAM index, its colour index, its attributes (65 R381, R382). -/
structure ObjPixel where
  x : Nat
  index : Nat
  color : Nat
  attr : Byte
  deriving DecidableEq, Repr

/-- The pixel of selected object i at screen column sx, none where it does not cover sx, draws nothing on
this line, or is transparent (65 R381, R382). -/
def Ppu.objPixel (vram oam : Memory) (p : Ppu) (sx i : Nat) : Option ObjPixel :=
  let y := oamAt oam (4 * i)
  let x := oamAt oam (4 * i + 1)
  let t := oamAt oam (4 * i + 2)
  let attr := Store.get oam (4 * i + 3)
  let h := p.objHeight
  if x ≤ sx + 8 ∧ sx + 8 < x + 8 ∧ y ≤ p.ly + 16 ∧ p.ly + 16 < y + h then
    let row0 := p.ly + 16 - y
    let row := if bitOf attr 6 then h - 1 - row0 else row0
    let tile := if h = 16 then t / 2 * 2 + row / 8 else t
    let col0 := sx + 8 - x
    let col := if bitOf attr 5 then 7 - col0 else col0
    let c := tilePixel vram (16 * tile) (row % 8) col
    if c = 0 then none else some { x := x, index := i, color := c, attr := attr }
  else none

/-- The better of two candidates: the smaller X, on equal X the smaller OAM index (65 R382). -/
def betterObj (a b : ObjPixel) : ObjPixel :=
  if b.x < a.x ∨ (b.x = a.x ∧ b.index < a.index) then b else a

/-- The winning object pixel at screen column sx, if any (65 R382). -/
def Ppu.objWinner (vram oam : Memory) (p : Ppu) (sx : Nat) : Option ObjPixel :=
  (p.objs.filterMap (p.objPixel vram oam sx)).foldl
    (fun best o => some (match best with | none => o | some b => betterObj b o)) none

/-- Whether the window covers screen pixel sx of this line now (65 R385, R391). -/
def Ppu.windowCovers (p : Ppu) (sx : Nat) : Bool := p.windowOn && decide (p.wx.toNat ≤ sx + 7)

/-- The colour index the background and window give at screen pixel sx; 0 with LCDC bit 0 clear
(65 R389, R391). -/
def Ppu.bgWinColor (vram : Memory) (p : Ppu) (sx : Nat) : Nat :=
  if bitOf p.lcdc 0 then (if p.windowCovers sx then p.winColor vram sx else p.bgColor vram sx) else 0

/-- The shade `RenderPixel` outputs at screen pixel sx (65 R391). -/
def Ppu.pixelShade (vram oam : Memory) (p : Ppu) (sx : Nat) : BitVec 2 :=
  let cBg := p.bgWinColor vram sx
  let under := if bitOf p.lcdc 0 then shade p.bgp cBg else 0
  if bitOf p.lcdc 1 then
    match p.objWinner vram oam sx with
    | some w =>
      if bitOf w.attr 7 ∧ cBg ≠ 0 then under
      else shade (if bitOf w.attr 4 then p.obp1 else p.obp0) w.color
    | none => under
  else under

/-- The key of a pixel in a frame buffer (10 R54). -/
def frameKey (ly sx : Nat) : Nat := 160 * ly + sx

/-- `RenderPixel(ly, sx)` (65 R391): with LCDC bit 0 set, a window pixel marks the line (65 R385). -/
def Ppu.renderPixel (vram oam : Memory) (p : Ppu) (sx : Nat) : Ppu :=
  { p with
    winDrawn := p.winDrawn || (bitOf p.lcdc 0 && p.windowCovers sx),
    back := Store.set p.back (frameKey p.ly sx) (p.pixelShade vram oam sx) }

/-- Dot 0 of the next line, and whether VBlank is entered: it is requested and the frame published on
entry to line 144 (65 R375, R377). -/
def Ppu.nextLine (p : Ppu) : Ppu × Bool :=
  let ly := (p.ly + 1) % 154
  let q := { p with dot := 0, ly := ly }
  if ly = 0 then ({ q with wyHit := false, winLine := 0, mode := .oamScan }, false)
  else if ly < 144 then ({ q with mode := .oamScan }, false)
  else if ly = 144 then ({ q with mode := .vblank, front := q.back }, true)
  else (q, false)

/-- Dot 80 of a visible line: the WY check, the scan and the Drawing length, `len` being P_MODE3_LEN
(65 R377, R379, R383, R385). -/
def Ppu.startDrawing (len : Ppu → Nat) (oam : Memory) (p : Ppu) : Ppu :=
  let q := { p with wyHit := p.wyHit || decide (p.ly = p.wy.toNat), objs := oamScan oam p.ly p.objHeight }
  { q with drawLen := len q, winDrawn := false, mode := .drawing }

/-- The end of Drawing: a line that drew the window advances its counter (65 R377, R385). On line 143 the sum can
be 144, one past the range 10 R53 writes (log entry 13). -/
def Ppu.startHblank (p : Ppu) : Ppu :=
  { p with winLine := if p.winDrawn then p.winLine + 1 else p.winLine, mode := .hblank }

/-- The counter and mode part of `PpuTick`, and whether it requests VBlank (65 R377). -/
def Ppu.moveDot (len : Ppu → Nat) (oam : Memory) (p : Ppu) : Ppu × Bool :=
  let q := { p with dot := p.dot + 1 }
  if q.dot = 456 then q.nextLine
  else if q.ly < 144 ∧ q.dot = 80 then (q.startDrawing len oam, false)
  else if q.ly < 144 ∧ q.dot = 80 + q.drawLen then (q.startHblank, false)
  else (q, false)

/-- The pixel part of `PpuTick`: one pixel in each of the last 160 dots of Drawing (65 R377, R391). -/
def Ppu.drawDot (vram oam : Memory) (p : Ppu) : Ppu :=
  if p.ly < 144 ∧ p.mode = .drawing ∧ 80 + p.drawLen ≤ p.dot + 160 ∧ p.dot < 80 + p.drawLen then
    p.renderPixel vram oam (p.dot + 160 - (80 + p.drawLen))
  else p

/-- `PpuTick()`, one dot: the PPU after it and the IF bits it requests (65 R377). With the LCD off it does
nothing (65 R398). -/
def Ppu.tick (len : Ppu → Nat) (vram oam : Memory) (p : Ppu) : Ppu × BitVec 5 :=
  if p.lcdOn then
    let m := p.moveDot len oam
    let u := (m.1.drawDot vram oam).updateStat
    (u.1, (if m.2 then 1 else 0) ||| (if u.2 then 2 else 0))
  else (p, 0)

/-- A CPU write to LCDC before the STAT re-evaluation that follows it (65 R398, R378). -/
def Ppu.writeLcdc (p : Ppu) (v : Byte) : Ppu :=
  let q := { p with lcdc := v }
  if p.lcdOn && !bitOf v 7 then { q with ly := 0, dot := 0, mode := .hblank, statLine := false }
  else if !p.lcdOn && bitOf v 7 then
    { q with
      ly := 0, dot := 0, mode := .oamScan, wyHit := false, winLine := 0, objs := [], drawLen := 172 }
  else q

/-- A CPU write to STAT stores v[6:3] only (10 R43). -/
def Ppu.writeStat (p : Ppu) (v : Byte) : Ppu := { p with stat := (v >>> 3).setWidth 4 }

/-- STAT as the CPU reads it (10 R43). -/
def Ppu.readStat (p : Ppu) : Byte :=
  0x80 ||| (p.stat.setWidth 8 <<< 3) ||| bitAt p.coincidence 2 ||| p.mode.code

end Sys2Proof.Machine
end

