-- ==== Sys2Proof/Machine/Timer.lean ====
section
/-! DEFINITION. The Timer Unit (60 R340-R348; 10 R37-R40, R52). -/

namespace Sys2Proof.Machine

/-- The bit of `div_counter` that TAC[1:0] selects (60 R340). -/
def timerBit (tac : BitVec 3) : Nat :=
  match tac.toNat % 4 with
  | 0 => 9
  | 1 => 3
  | 2 => 5
  | _ => 7

/-- `sig(d, t) = t[2] AND d[sel(t[1:0])]` (60 R340). -/
def timerSig (d : Word) (tac : BitVec 3) : Bool := tac.getLsbD 2 && d.getLsbD (timerBit tac)

/-- `IncTIMA()` (60 R343); `delay` is P_TIMA_RELOAD_DELAY. -/
def Timer.incTima (delay : Nat) (t : Timer) : Timer :=
  if t.tima = 0xFF then { t with tima := 0, reloadWait := delay } else { t with tima := t.tima + 1 }

/-- The first half of `TimerTick`: the reload countdown, and whether it requests the Timer interrupt
(60 R341, R343). -/
def Timer.countReload (t : Timer) : Timer × Bool :=
  if t.reloadWait = 0 then (t, false)
  else if t.reloadWait = 1 then ({ t with tima := t.tma, reloadWait := 0 }, true)
  else ({ t with reloadWait := t.reloadWait - 1 }, false)

/-- The divider set to `d`, with TIMA incremented on a 1-to-0 edge of the signal (60 R341, R342). -/
def Timer.setDiv (delay : Nat) (t : Timer) (d : Word) : Timer :=
  let t' := { t with div := d }
  if timerSig t.div t.tac && !timerSig d t.tac then t'.incTima delay else t'

/-- `TimerTick()`, one T-cycle, and whether it requests the Timer interrupt (60 R341). -/
def Timer.tick (delay : Nat) (t : Timer) : Timer × Bool :=
  let r := t.countReload
  (r.1.setDiv delay (r.1.div + 1), r.2)

/-- A CPU write to DIV, and STOP's reset of the divider (60 R342; 10 R37; 47 R292). -/
def Timer.resetDiv (delay : Nat) (t : Timer) : Timer := t.setDiv delay 0

/-- A CPU write to TIMA cancels a pending reload (60 R344). -/
def Timer.writeTima (t : Timer) (v : Byte) : Timer := { t with tima := v, reloadWait := 0 }

/-- A CPU write to TAC, with its edge (60 R342; 10 R40). -/
def Timer.writeTac (delay : Nat) (t : Timer) (v : Byte) : Timer :=
  let tac : BitVec 3 := v.setWidth 3
  let t' := { t with tac := tac }
  if timerSig t.div t.tac && !timerSig t.div tac then t'.incTima delay else t'

end Sys2Proof.Machine
end

