-- ==== Sys2Proof/Machine/Bus.lean ====
section
/-! DEFINITION. The memory bus: the address map (20 R60), the I/O registers (10 R34-R51), contention
(20 R76), OAM DMA (20 R80), and the interrupt requests its writes make (60 R312). -/

namespace Sys2Proof.Machine

/-! ### The address map -/

/-- The regions of the address space (20 R60). -/
inductive Region where
  | romLo | romHi | vram | extRam | wram | mirror | oam | unusable | io | hram | ie
  deriving DecidableEq, Repr

/-- The region of an address: total (20 R60). -/
def regionOf (a : Word) : Region :=
  let n := a.toNat
  if n < 0x4000 then .romLo
  else if n < 0x8000 then .romHi
  else if n < 0xA000 then .vram
  else if n < 0xC000 then .extRam
  else if n < 0xE000 then .wram
  else if n < 0xFE00 then .mirror
  else if n < 0xFEA0 then .oam
  else if n < 0xFF00 then .unusable
  else if n < 0xFF80 then .io
  else if n < 0xFFFF then .hram
  else .ie

/-- `addr - base`: the offset of an address into a region that starts at `base`. -/
def offsetFrom (base a : Word) : Nat := (a - base).toNat

/-- `translateAddress(addr)`: the offset into the region's backing store and the region (20 R88). DESIGN CHOICE:
where there is no backing store the offset is the model's own (external RAM of size 0: unreduced; the unusable
range: addr - 0xFEA0; IE: 0; an I/O address with no register: addr - 0xFF00, the one form of the I/O region's
offset), and it selects no stored byte or register (log entry 26). -/
def State.translate (s : State) (a : Word) : Nat × Region :=
  let r := regionOf a
  (match r with
    | .romLo => s.cart.romBankLo * 0x4000 + a.toNat
    | .romHi => s.cart.romBankHi * 0x4000 + offsetFrom 0x4000 a
    | .vram => offsetFrom 0x8000 a
    | .extRam => s.cart.ramOffset (offsetFrom 0xA000 a)
    | .wram => offsetFrom 0xC000 a
    | .mirror => offsetFrom 0xE000 a
    | .oam => offsetFrom 0xFE00 a
    | .unusable => offsetFrom 0xFEA0 a
    | .io => offsetFrom 0xFF00 a
    | .hram => offsetFrom 0xFF80 a
    | .ie => 0, r)

/-- The I/O registers (10 R34). `sound i` is the byte at 0xFF10 + i. -/
inductive IoReg where
  | p1 | sb | sc | div | tima | tma | tac | iflag
  | sound (i : Nat)
  | lcdc | stat | scy | scx | ly | lyc | dma | bgp | obp0 | obp1 | wy | wx
  | unmapped
  deriving DecidableEq, Repr

/-- The register at 0xFF00 + n (10 R34). -/
def ioRegAt (n : Nat) : IoReg :=
  if 0x10 ≤ n ∧ n < 0x40 then .sound (n - 0x10)
  else
    match n with
    | 0x00 => .p1 | 0x01 => .sb | 0x02 => .sc | 0x04 => .div | 0x05 => .tima | 0x06 => .tma
    | 0x07 => .tac | 0x0F => .iflag | 0x40 => .lcdc | 0x41 => .stat | 0x42 => .scy | 0x43 => .scx
    | 0x44 => .ly | 0x45 => .lyc | 0x46 => .dma | 0x47 => .bgp | 0x48 => .obp0 | 0x49 => .obp1
    | 0x4A => .wy | 0x4B => .wx
    | _ => .unmapped

/-! ### Interrupt requests and the joypad -/

/-- Set the given IF bits (60 R312). -/
def State.requestBits (s : State) (bits : BitVec 5) : State :=
  s.setIrq { s.irq with flags := s.irq.flags ||| bits }

/-- `requestInterrupt(k)` (60 R312). -/
def State.request (s : State) (k : Nat) : State := s.requestBits (1#5 <<< k)

/-- `requestInterrupt(k)` if the condition holds. -/
def State.requestIf (s : State) (cond : Bool) (k : Nat) : State := if cond then s.request k else s

/-- The low nibble of the P1 read value: a line of a selected group reads 0 when pressed (10 R35). -/
def Joypad.low (j : Joypad) : Byte :=
  let dirs : Byte := if j.selDir then 0#8 else j.buttons &&& 0x0F
  let acts : Byte := if j.selAct then 0#8 else j.buttons >>> (4 : Nat)
  let lines := dirs ||| acts
  ~~~lines &&& 0x0F

/-- P1 as the CPU reads it (10 R35). -/
def Joypad.readP1 (j : Joypad) : Byte := 0xC0 ||| bitAt j.selAct 5 ||| bitAt j.selDir 4 ||| j.low

/-- The joypad replaced, with the interrupt request and the wake-up from Stopped that a 1-to-0 change of a
line makes (20 R101; 60 R319). -/
def State.changePad (s : State) (j : Joypad) : State :=
  let t := s.setPad j
  if s.pad.low &&& ~~~j.low = 0 then t
  else
    let u := t.request 4
    if u.cpu.run = .stopped then u.setRun .running else u

/-! ### Reads -/

/-- The read value of an I/O register (10 R35-R51). -/
def State.readIo (s : State) : IoReg → Byte
  | .p1 => s.pad.readP1
  | .sb => s.serial.sb
  | .sc => bitAt s.serial.scStart 7 ||| bitAt s.serial.scClock 0 ||| 0x7E
  | .div => hiByte s.timer.div
  | .tima => s.timer.tima
  | .tma => s.timer.tma
  | .tac => s.timer.tac.setWidth 8 ||| 0xF8
  | .iflag => s.irq.flags.setWidth 8 ||| 0xE0
  | .sound i => Store.get s.mem.sound i
  | .lcdc => s.ppu.lcdc
  | .stat => s.ppu.readStat
  | .scy => s.ppu.scy
  | .scx => s.ppu.scx
  | .ly => s.ppu.lyByte
  | .lyc => s.ppu.lyc
  | .dma => s.mem.dma
  | .bgp => s.ppu.bgp
  | .obp0 => s.ppu.obp0
  | .obp1 => s.ppu.obp1
  | .wy => s.ppu.wy
  | .wx => s.ppu.wx
  | .unmapped => 0xFF

/-- `read8` without the contention check: what OAM DMA reads (20 R80), and what a CPU read gives where
nothing is blocked (20 R63-R74). -/
def State.readRaw (s : State) (a : Word) : Byte :=
  let off := (s.translate a).1
  match regionOf a with
  | .romLo => Store.get s.cart.rom off
  | .romHi => Store.get s.cart.rom off
  | .vram => Store.get s.mem.vram off
  | .extRam => s.cart.readRam (offsetFrom 0xA000 a)
  | .wram => Store.get s.mem.wram off
  | .mirror => Store.get s.mem.wram off
  | .oam => Store.get s.mem.oam off
  | .unusable => 0x00
  | .io => s.readIo (ioRegAt off)
  | .hram => Store.get s.mem.hram off
  | .ie => s.irq.enable

/-- Contention: the access is blocked in the PPU's mode (20 R76). The mode is the one the instruction began
with, since nothing changes it between an instruction's start and its VRAM and OAM accesses
(log entry 11). -/
def State.blocked (s : State) (a : Word) : Bool :=
  s.params.contention && s.ppu.lcdOn &&
    (match regionOf a with
      | .vram => decide (s.ppu.mode = .drawing)
      | .oam | .unusable => decide (s.ppu.mode = .drawing) || decide (s.ppu.mode = .oamScan)
      | _ => false)

/-- `read8(addr)`: total, no side effect; a blocked read gives 0xFF (20 R61, R76). -/
def State.read8 (s : State) (a : Word) : Byte := if s.blocked a then 0xFF else s.readRaw a

/-! ### Writes -/

/-- A write to the DMA register: the byte is stored, the 160 bytes from page v are copied to OAM, and the
instruction is charged (20 R80, R81). No source byte is one an earlier byte of the copy has changed, so the
copy reads the state the write left (log entry 12). -/
def State.oamDma (s : State) (v : Byte) : State :=
  let t := s.setMem { s.mem with dma := v }
  (t.setMem
    { t.mem with
      oam := Store.tabulateFrom (fun i => t.readRaw (pair v 0 + BitVec.ofNat 16 i)) 0 160 }).charge
    t.params.dmaCycles

/-- The PPU replaced and its STAT line re-evaluated, as after a CPU write to STAT, LYC or LCDC (65 R378). -/
def State.setPpuAndStat (s : State) (p : Ppu) : State :=
  let u := p.updateStat
  (s.setPpu u.1).requestIf u.2 1

/-- The write effect of an I/O register (10 R35-R51). -/
def State.writeIo (s : State) (r : IoReg) (v : Byte) : State :=
  match r with
  | .p1 => s.changePad { s.pad with selAct := bitOf v 5, selDir := bitOf v 4 }
  | .sb => s.setSerial { s.serial with sb := v }
  | .sc => s.setSerial { s.serial with scStart := bitOf v 7, scClock := bitOf v 0 }
  | .div => s.setTimer (s.timer.resetDiv s.params.timaReloadDelay)
  | .tima => s.setTimer (s.timer.writeTima v)
  | .tma => s.setTimer { s.timer with tma := v }
  | .tac => s.setTimer (s.timer.writeTac s.params.timaReloadDelay v)
  | .iflag => s.setIrq { s.irq with flags := v.setWidth 5 }
  | .sound i => s.setMem { s.mem with sound := Store.set s.mem.sound i v }
  | .lcdc => s.setPpuAndStat (s.ppu.writeLcdc v)
  | .stat => s.setPpuAndStat (s.ppu.writeStat v)
  | .scy => s.setPpu { s.ppu with scy := v }
  | .scx => s.setPpu { s.ppu with scx := v }
  | .ly => s
  | .lyc => s.setPpuAndStat { s.ppu with lyc := v }
  | .dma => s.oamDma v
  | .bgp => s.setPpu { s.ppu with bgp := v }
  | .obp0 => s.setPpu { s.ppu with obp0 := v }
  | .obp1 => s.setPpu { s.ppu with obp1 := v }
  | .wy => s.setPpu { s.ppu with wy := v }
  | .wx => s.setPpu { s.ppu with wx := v }
  | .unmapped => s

/-- `write8` where nothing is blocked (20 R65-R74). -/
def State.writeRaw (s : State) (a : Word) (v : Byte) : State :=
  let off := (s.translate a).1
  match regionOf a with
  | .romLo => s.setCart (s.cart.bankingWrite a.toNat v)
  | .romHi => s.setCart (s.cart.bankingWrite a.toNat v)
  | .vram => s.setMem { s.mem with vram := Store.set s.mem.vram off v }
  | .extRam => s.setCart (s.cart.writeRam (offsetFrom 0xA000 a) v)
  | .wram => s.setMem { s.mem with wram := Store.set s.mem.wram off v }
  | .mirror => s.setMem { s.mem with wram := Store.set s.mem.wram off v }
  | .oam => s.setMem { s.mem with oam := Store.set s.mem.oam off v }
  | .unusable => s
  | .io => s.writeIo (ioRegAt off) v
  | .hram => s.setMem { s.mem with hram := Store.set s.mem.hram off v }
  | .ie => s.setIrq { s.irq with enable := v }

/-- `write8(addr, v)`: total; a blocked write is dropped (20 R62, R76). -/
def State.write8 (s : State) (a : Word) (v : Byte) : State := if s.blocked a then s else s.writeRaw a v

/-- `MemRead(addr, 2)` (00 R10; 20 R82). -/
def State.read16 (s : State) (a : Word) : Word := pair (s.read8 (a + 1)) (s.read8 a)

/-- `MemWrite(addr, 2, v)`: the low byte, then the high byte (00 R10; 20 R82). -/
def State.write16 (s : State) (a : Word) (v : Word) : State :=
  (s.write8 a (loByte v)).write8 (a + 1) (hiByte v)

end Sys2Proof.Machine
end

