-- ==== Sys2Proof/Machine/Ops.lean ====
section
/-! DEFINITION. The named operations the instructions share: fetching, the stack, taking an interrupt,
returning from one, the IllegalOpcode condition, and the T-cycle ticks (60 R310-R327). -/

namespace Sys2Proof.Machine

/-! ### Fetching -/

/-- The instruction at PC: the opcode byte, then the immediates from the byte after it, or from the same
byte again under the halt bug (60 R311; 47 R291). Reads have no side effects (20 R61), so reading the whole
window is the same as fetching only the bytes the instruction has (log entry 8). -/
def State.fetch (s : State) : Instr :=
  let p := s.cpu.pcAfterOpcode
  decodeWindow (s.read8 s.cpu.pc) (s.read8 p) (s.read8 (p + 1))

/-! ### The stack -/

/-- `Push16(v)`: SP down, the high byte, SP down, the low byte (00 R10; 41 R186). -/
def State.push16 (s : State) (v : Word) : State :=
  let s1 := s.setSp (s.cpu.sp - 1)
  let s2 := s1.write8 s1.cpu.sp (hiByte v)
  let s3 := s2.setSp (s2.cpu.sp - 1)
  s3.write8 s3.cpu.sp (loByte v)

/-- The value `Pop16()` returns: the low byte at SP, the high byte above it (00 R10; 41 R186). -/
def State.popValue (s : State) : Word := pair (s.read8 (s.cpu.sp + 1)) (s.read8 s.cpu.sp)

/-- The state `Pop16()` leaves: SP up by two (00 R10; 41 R186). -/
def State.popped (s : State) : State := s.setSp (s.cpu.sp + 2)

/-! ### Interrupts (60 R312-R327) -/

/-- `IE & IF & 0x1F`: the requested sources (60 R313). -/
def State.requested (s : State) : BitVec 5 := s.irq.enable.setWidth 5 &&& s.irq.flags

/-- The lowest set bit, that is the requested source of highest priority (60 R314). -/
def lowestSource (req : BitVec 5) : Option Nat :=
  if req.getLsbD 0 then some 0
  else if req.getLsbD 1 then some 1
  else if req.getLsbD 2 then some 2
  else if req.getLsbD 3 then some 3
  else if req.getLsbD 4 then some 4
  else none

/-- `pendingInterrupt()` (60 R313). -/
def State.pending (s : State) : Option Nat := if s.cpu.ime then lowestSource s.requested else none

/-- `acknowledge(k)`: IF[k] cleared (60 R326). -/
def State.acknowledge (s : State) (k : Nat) : State :=
  s.setIrq { s.irq with flags := s.irq.flags &&& ~~~(1#5 <<< k) }

/-- The handler address of source k (60 R317). -/
def vectorOf (k : Nat) : Word := BitVec.ofNat 16 (0x40 + 8 * k)

/-- Taking an interrupt: `Dispatch()` for source k (60 R316). IF[k], IME, `ei_pending` and `halt_bug` are
cleared, PC (less 1 under the halt bug) is pushed, PC is the vector, the cost is P_DISPATCH_CYCLES whatever
the push wrote to (log entry 10). -/
def State.dispatch (s : State) (k : Nat) : State :=
  let ret := if s.cpu.haltBug then s.cpu.pc - 1 else s.cpu.pc
  let t := s.acknowledge k
  let u := t.setCpu { t.cpu with ime := false, eiPending := false, haltBug := false }
  ((u.push16 ret).setPc (vectorOf k)).setCost s.params.dispatchCycles

/-- Returning from an interrupt: what RETI does after its fetch (46 R280; 60 R321). -/
def State.returnFromInterrupt (s : State) : State :=
  let t := s.popped.setPc s.popValue
  t.setCpu { t.cpu with ime := true, eiPending := false }

/-- `raise IllegalOpcode(PC, byte)` (47 R296): PC stays at the byte, `run` is Faulted, the cost is 0. The
opcode fetch has cleared `halt_bug` (60 R311). -/
def State.illegalOpcode (s : State) (byte : Byte) : State :=
  (s.setCpu { s.cpu with haltBug := false, run := .faulted s.cpu.pc byte }).setCost 0

/-- The end of an instruction's step: EI's commit, when EI was pending at its start (47 R295; 60 R311). A
faulted step ends before it. -/
def State.commitEi (s : State) (commit : Bool) : State :=
  match s.cpu.run with
  | .faulted _ _ => s
  | _ => if commit && s.cpu.eiPending then s.setCpu { s.cpu with ime := true, eiPending := false } else s

/-! ### The ticks after the CPU's step (60 R310) -/

/-- `TimerTick()` on the machine (60 R341). -/
def State.timerTick (s : State) : State :=
  let r := s.timer.tick s.params.timaReloadDelay
  (s.setTimer r.1).requestIf r.2 2

/-- `PpuTick()` on the machine (65 R377). -/
def State.ppuTick (s : State) : State :=
  let r := s.ppu.tick s.mode3Len s.mem.vram s.mem.oam
  (s.setPpu r.1).requestBits r.2

/-- One T-cycle: the timer, then the PPU (60 R310). -/
def State.tCycle (s : State) : State := s.timerTick.ppuTick

/-- `n` T-cycles (60 R310). -/
def State.tCycles (s : State) : Nat → State
  | 0 => s
  | n + 1 => s.tCycle.tCycles n

end Sys2Proof.Machine
end

