-- ==== Sys2Proof/Machine/Alu16.lean ====
section
/-! DEFINITION. The 16-bit arithmetic (43 R235-R238). -/

namespace Sys2Proof.Machine

/-- ADD HL,rr (43 R235). -/
def addHl (p : Pair) (s : State) : State :=
  let t := s.advance 1
  let r := addHlResult t.hl (t.pairOf p) t.cpu.f
  ((t.setPair .hl r.1).setFlags r.2).charge 8

/-- INC rr: no flag is written (43 R236). -/
def incPair (p : Pair) (s : State) : State :=
  let t := s.advance 1
  (t.setPair p (t.pairOf p + 1)).charge 8

/-- DEC rr: no flag is written (43 R237). -/
def decPair (p : Pair) (s : State) : State :=
  let t := s.advance 1
  (t.setPair p (t.pairOf p - 1)).charge 8

/-- ADD SP,e (43 R238). -/
def addSpE (e : Byte) (s : State) : State :=
  let t := s.advance 2
  let r := addSpResult t.cpu.sp e
  ((t.setSp r.1).setFlags r.2).charge 16

/-! ### The meanings -/

/-- INC BC (03; R236). -/
def execIncBC (s : State) : Result := .next (incPair .bc s)

/-- ADD HL,BC (09; R235). -/
def execAddHLBC (s : State) : Result := .next (addHl .bc s)

/-- DEC BC (0B; R237). -/
def execDecBC (s : State) : Result := .next (decPair .bc s)

/-- INC DE (13; R236). -/
def execIncDE (s : State) : Result := .next (incPair .de s)

/-- ADD HL,DE (19; R235). -/
def execAddHLDE (s : State) : Result := .next (addHl .de s)

/-- DEC DE (1B; R237). -/
def execDecDE (s : State) : Result := .next (decPair .de s)

/-- INC HL (23; R236). -/
def execIncHL (s : State) : Result := .next (incPair .hl s)

/-- ADD HL,HL (29; R235). -/
def execAddHLHL (s : State) : Result := .next (addHl .hl s)

/-- DEC HL (2B; R237). -/
def execDecHL (s : State) : Result := .next (decPair .hl s)

/-- INC SP (33; R236). -/
def execIncSP (s : State) : Result := .next (incPair .sp s)

/-- ADD HL,SP (39; R235). -/
def execAddHLSP (s : State) : Result := .next (addHl .sp s)

/-- DEC SP (3B; R237). -/
def execDecSP (s : State) : Result := .next (decPair .sp s)

/-- ADD SP,e (E8; R238). -/
def execAddSPE (e : Byte) (s : State) : Result := .next (addSpE e s)

end Sys2Proof.Machine
end

