-- ==== Sys2Proof/Machine/Alu8.lean ====
section
/-! DEFINITION. The 8-bit arithmetic and logic (42 R196-R231). -/

namespace Sys2Proof.Machine

/-- A and F written with an ALU result (42 R196). -/
def State.setAcc (s : State) (r : Byte × Flags) : State := (s.setReg .a r.1).setFlags r.2

/-- The ALU group on a register (42 R196). -/
def aluReg (op : AluOp) (r : Reg8) (s : State) : State :=
  let t := s.advance 1
  (t.setAcc (aluResult op (t.reg .a) (t.reg r) t.cpu.f.c)).charge 4

/-- The ALU group on (HL) (42 R196). -/
def aluMem (op : AluOp) (s : State) : State :=
  let t := s.advance 1
  (t.setAcc (aluResult op (t.reg .a) (t.read8 t.hl) t.cpu.f.c)).charge 8

/-- The ALU group on an immediate (42 R196). -/
def aluImm (op : AluOp) (n : Byte) (s : State) : State :=
  let t := s.advance 2
  (t.setAcc (aluResult op (t.reg .a) n t.cpu.f.c)).charge 8

/-- INC r (42 R224). -/
def incReg (r : Reg8) (s : State) : State :=
  let t := s.advance 1
  let x := inc8 (t.reg r) t.cpu.f
  ((t.setReg r x.1).setFlags x.2).charge 4

/-- INC (HL): one read, one write (42 R225). -/
def incMem (s : State) : State :=
  let t := s.advance 1
  let x := inc8 (t.read8 t.hl) t.cpu.f
  ((t.write8 t.hl x.1).setFlags x.2).charge 12

/-- DEC r (42 R226). -/
def decReg (r : Reg8) (s : State) : State :=
  let t := s.advance 1
  let x := dec8 (t.reg r) t.cpu.f
  ((t.setReg r x.1).setFlags x.2).charge 4

/-- DEC (HL): one read, one write (42 R227). -/
def decMem (s : State) : State :=
  let t := s.advance 1
  let x := dec8 (t.read8 t.hl) t.cpu.f
  ((t.write8 t.hl x.1).setFlags x.2).charge 12

/-- An operation on A and F alone: DAA, CPL (42 R228, R229). -/
def accOp (f : Byte → Flags → Byte × Flags) (s : State) : State :=
  let t := s.advance 1
  (t.setAcc (f (t.reg .a) t.cpu.f)).charge 4

/-- An operation on F alone: SCF, CCF (42 R230, R231). -/
def flagOp (f : Flags → Flags) (s : State) : State :=
  let t := s.advance 1
  (t.setFlags (f t.cpu.f)).charge 4

/-! ### The meanings -/

/-- INC B (04; R224). -/
def execIncB (s : State) : Result := .next (incReg .b s)

/-- DEC B (05; R226). -/
def execDecB (s : State) : Result := .next (decReg .b s)

/-- INC C (0C; R224). -/
def execIncC (s : State) : Result := .next (incReg .c s)

/-- DEC C (0D; R226). -/
def execDecC (s : State) : Result := .next (decReg .c s)

/-- INC D (14; R224). -/
def execIncD (s : State) : Result := .next (incReg .d s)

/-- DEC D (15; R226). -/
def execDecD (s : State) : Result := .next (decReg .d s)

/-- INC E (1C; R224). -/
def execIncE (s : State) : Result := .next (incReg .e s)

/-- DEC E (1D; R226). -/
def execDecE (s : State) : Result := .next (decReg .e s)

/-- INC H (24; R224). -/
def execIncH (s : State) : Result := .next (incReg .h s)

/-- DEC H (25; R226). -/
def execDecH (s : State) : Result := .next (decReg .h s)

/-- DAA (27; R228). -/
def execDaa (s : State) : Result := .next (accOp daaResult s)

/-- INC L (2C; R224). -/
def execIncL (s : State) : Result := .next (incReg .l s)

/-- DEC L (2D; R226). -/
def execDecL (s : State) : Result := .next (decReg .l s)

/-- CPL (2F; R229). -/
def execCpl (s : State) : Result := .next (accOp cplResult s)

/-- INC (HL) (34; R225). -/
def execIncAtHL (s : State) : Result := .next (incMem s)

/-- DEC (HL) (35; R227). -/
def execDecAtHL (s : State) : Result := .next (decMem s)

/-- SCF (37; R230). -/
def execScf (s : State) : Result := .next (flagOp scfFlags s)

/-- INC A (3C; R224). -/
def execIncA (s : State) : Result := .next (incReg .a s)

/-- DEC A (3D; R226). -/
def execDecA (s : State) : Result := .next (decReg .a s)

/-- CCF (3F; R231). -/
def execCcf (s : State) : Result := .next (flagOp ccfFlags s)

/-- ADD A,B (80; R200). -/
def execAddAB (s : State) : Result := .next (aluReg .add .b s)

/-- ADD A,C (81; R200). -/
def execAddAC (s : State) : Result := .next (aluReg .add .c s)

/-- ADD A,D (82; R200). -/
def execAddAD (s : State) : Result := .next (aluReg .add .d s)

/-- ADD A,E (83; R200). -/
def execAddAE (s : State) : Result := .next (aluReg .add .e s)

/-- ADD A,H (84; R200). -/
def execAddAH (s : State) : Result := .next (aluReg .add .h s)

/-- ADD A,L (85; R200). -/
def execAddAL (s : State) : Result := .next (aluReg .add .l s)

/-- ADD A,(HL) (86; R201). -/
def execAddAAtHL (s : State) : Result := .next (aluMem .add s)

/-- ADD A,A (87; R200). -/
def execAddAA (s : State) : Result := .next (aluReg .add .a s)

/-- ADC A,B (88; R203). -/
def execAdcAB (s : State) : Result := .next (aluReg .adc .b s)

/-- ADC A,C (89; R203). -/
def execAdcAC (s : State) : Result := .next (aluReg .adc .c s)

/-- ADC A,D (8A; R203). -/
def execAdcAD (s : State) : Result := .next (aluReg .adc .d s)

/-- ADC A,E (8B; R203). -/
def execAdcAE (s : State) : Result := .next (aluReg .adc .e s)

/-- ADC A,H (8C; R203). -/
def execAdcAH (s : State) : Result := .next (aluReg .adc .h s)

/-- ADC A,L (8D; R203). -/
def execAdcAL (s : State) : Result := .next (aluReg .adc .l s)

/-- ADC A,(HL) (8E; R204). -/
def execAdcAAtHL (s : State) : Result := .next (aluMem .adc s)

/-- ADC A,A (8F; R203). -/
def execAdcAA (s : State) : Result := .next (aluReg .adc .a s)

/-- SUB B (90; R206). -/
def execSubB (s : State) : Result := .next (aluReg .sub .b s)

/-- SUB C (91; R206). -/
def execSubC (s : State) : Result := .next (aluReg .sub .c s)

/-- SUB D (92; R206). -/
def execSubD (s : State) : Result := .next (aluReg .sub .d s)

/-- SUB E (93; R206). -/
def execSubE (s : State) : Result := .next (aluReg .sub .e s)

/-- SUB H (94; R206). -/
def execSubH (s : State) : Result := .next (aluReg .sub .h s)

/-- SUB L (95; R206). -/
def execSubL (s : State) : Result := .next (aluReg .sub .l s)

/-- SUB (HL) (96; R207). -/
def execSubAtHL (s : State) : Result := .next (aluMem .sub s)

/-- SUB A (97; R206). -/
def execSubA (s : State) : Result := .next (aluReg .sub .a s)

/-- SBC A,B (98; R209). -/
def execSbcAB (s : State) : Result := .next (aluReg .sbc .b s)

/-- SBC A,C (99; R209). -/
def execSbcAC (s : State) : Result := .next (aluReg .sbc .c s)

/-- SBC A,D (9A; R209). -/
def execSbcAD (s : State) : Result := .next (aluReg .sbc .d s)

/-- SBC A,E (9B; R209). -/
def execSbcAE (s : State) : Result := .next (aluReg .sbc .e s)

/-- SBC A,H (9C; R209). -/
def execSbcAH (s : State) : Result := .next (aluReg .sbc .h s)

/-- SBC A,L (9D; R209). -/
def execSbcAL (s : State) : Result := .next (aluReg .sbc .l s)

/-- SBC A,(HL) (9E; R210). -/
def execSbcAAtHL (s : State) : Result := .next (aluMem .sbc s)

/-- SBC A,A (9F; R209). -/
def execSbcAA (s : State) : Result := .next (aluReg .sbc .a s)

/-- AND B (A0; R212). -/
def execAndB (s : State) : Result := .next (aluReg .and .b s)

/-- AND C (A1; R212). -/
def execAndC (s : State) : Result := .next (aluReg .and .c s)

/-- AND D (A2; R212). -/
def execAndD (s : State) : Result := .next (aluReg .and .d s)

/-- AND E (A3; R212). -/
def execAndE (s : State) : Result := .next (aluReg .and .e s)

/-- AND H (A4; R212). -/
def execAndH (s : State) : Result := .next (aluReg .and .h s)

/-- AND L (A5; R212). -/
def execAndL (s : State) : Result := .next (aluReg .and .l s)

/-- AND (HL) (A6; R213). -/
def execAndAtHL (s : State) : Result := .next (aluMem .and s)

/-- AND A (A7; R212). -/
def execAndA (s : State) : Result := .next (aluReg .and .a s)

/-- XOR B (A8; R215). -/
def execXorB (s : State) : Result := .next (aluReg .xor .b s)

/-- XOR C (A9; R215). -/
def execXorC (s : State) : Result := .next (aluReg .xor .c s)

/-- XOR D (AA; R215). -/
def execXorD (s : State) : Result := .next (aluReg .xor .d s)

/-- XOR E (AB; R215). -/
def execXorE (s : State) : Result := .next (aluReg .xor .e s)

/-- XOR H (AC; R215). -/
def execXorH (s : State) : Result := .next (aluReg .xor .h s)

/-- XOR L (AD; R215). -/
def execXorL (s : State) : Result := .next (aluReg .xor .l s)

/-- XOR (HL) (AE; R216). -/
def execXorAtHL (s : State) : Result := .next (aluMem .xor s)

/-- XOR A (AF; R215). -/
def execXorA (s : State) : Result := .next (aluReg .xor .a s)

/-- OR B (B0; R218). -/
def execOrB (s : State) : Result := .next (aluReg .or .b s)

/-- OR C (B1; R218). -/
def execOrC (s : State) : Result := .next (aluReg .or .c s)

/-- OR D (B2; R218). -/
def execOrD (s : State) : Result := .next (aluReg .or .d s)

/-- OR E (B3; R218). -/
def execOrE (s : State) : Result := .next (aluReg .or .e s)

/-- OR H (B4; R218). -/
def execOrH (s : State) : Result := .next (aluReg .or .h s)

/-- OR L (B5; R218). -/
def execOrL (s : State) : Result := .next (aluReg .or .l s)

/-- OR (HL) (B6; R219). -/
def execOrAtHL (s : State) : Result := .next (aluMem .or s)

/-- OR A (B7; R218). -/
def execOrA (s : State) : Result := .next (aluReg .or .a s)

/-- CP B (B8; R221). -/
def execCpB (s : State) : Result := .next (aluReg .cp .b s)

/-- CP C (B9; R221). -/
def execCpC (s : State) : Result := .next (aluReg .cp .c s)

/-- CP D (BA; R221). -/
def execCpD (s : State) : Result := .next (aluReg .cp .d s)

/-- CP E (BB; R221). -/
def execCpE (s : State) : Result := .next (aluReg .cp .e s)

/-- CP H (BC; R221). -/
def execCpH (s : State) : Result := .next (aluReg .cp .h s)

/-- CP L (BD; R221). -/
def execCpL (s : State) : Result := .next (aluReg .cp .l s)

/-- CP (HL) (BE; R222). -/
def execCpAtHL (s : State) : Result := .next (aluMem .cp s)

/-- CP A (BF; R221). -/
def execCpA (s : State) : Result := .next (aluReg .cp .a s)

/-- ADD A,n (C6; R202). -/
def execAddAN (n : Byte) (s : State) : Result := .next (aluImm .add n s)

/-- ADC A,n (CE; R205). -/
def execAdcAN (n : Byte) (s : State) : Result := .next (aluImm .adc n s)

/-- SUB n (D6; R208). -/
def execSubN (n : Byte) (s : State) : Result := .next (aluImm .sub n s)

/-- SBC A,n (DE; R211). -/
def execSbcAN (n : Byte) (s : State) : Result := .next (aluImm .sbc n s)

/-- AND n (E6; R214). -/
def execAndN (n : Byte) (s : State) : Result := .next (aluImm .and n s)

/-- XOR n (EE; R217). -/
def execXorN (n : Byte) (s : State) : Result := .next (aluImm .xor n s)

/-- OR n (F6; R220). -/
def execOrN (n : Byte) (s : State) : Result := .next (aluImm .or n s)

/-- CP n (FE; R223). -/
def execCpN (n : Byte) (s : State) : Result := .next (aluImm .cp n s)

end Sys2Proof.Machine
end

