-- ==== Sys2Proof/Machine/Bit.lean ====
section
/-! DEFINITION. The single-bit operations (45 R260-R265). -/

namespace Sys2Proof.Machine

/-- BIT b,r (45 R260). -/
def bitReg (b : Fin 8) (r : Reg8) (s : State) : State :=
  let t := s.advance 2
  (t.setFlags (bitFlags b (t.reg r) t.cpu.f)).charge 8

/-- BIT b,(HL): one read, no write (45 R261). -/
def bitMem (b : Fin 8) (s : State) : State :=
  let t := s.advance 2
  (t.setFlags (bitFlags b (t.read8 t.hl) t.cpu.f)).charge 12

/-- RES b,r (45 R262). -/
def resReg (b : Fin 8) (r : Reg8) (s : State) : State :=
  let t := s.advance 2
  (t.setReg r (resBit b (t.reg r))).charge 8

/-- RES b,(HL): the write happens whatever the bit was (45 R263). -/
def resMem (b : Fin 8) (s : State) : State :=
  let t := s.advance 2
  (t.write8 t.hl (resBit b (t.read8 t.hl))).charge 16

/-- SET b,r (45 R264). -/
def setReg (b : Fin 8) (r : Reg8) (s : State) : State :=
  let t := s.advance 2
  (t.setReg r (setBit b (t.reg r))).charge 8

/-- SET b,(HL): the write happens whatever the bit was (45 R265). -/
def setMem (b : Fin 8) (s : State) : State :=
  let t := s.advance 2
  (t.write8 t.hl (setBit b (t.read8 t.hl))).charge 16

/-! ### The meanings -/

/-- BIT 0,B (CB 40; R260). -/
def execBit0B (s : State) : Result := .next (bitReg 0 .b s)

/-- BIT 0,C (CB 41; R260). -/
def execBit0C (s : State) : Result := .next (bitReg 0 .c s)

/-- BIT 0,D (CB 42; R260). -/
def execBit0D (s : State) : Result := .next (bitReg 0 .d s)

/-- BIT 0,E (CB 43; R260). -/
def execBit0E (s : State) : Result := .next (bitReg 0 .e s)

/-- BIT 0,H (CB 44; R260). -/
def execBit0H (s : State) : Result := .next (bitReg 0 .h s)

/-- BIT 0,L (CB 45; R260). -/
def execBit0L (s : State) : Result := .next (bitReg 0 .l s)

/-- BIT 0,(HL) (CB 46; R261). -/
def execBit0AtHL (s : State) : Result := .next (bitMem 0 s)

/-- BIT 0,A (CB 47; R260). -/
def execBit0A (s : State) : Result := .next (bitReg 0 .a s)

/-- BIT 1,B (CB 48; R260). -/
def execBit1B (s : State) : Result := .next (bitReg 1 .b s)

/-- BIT 1,C (CB 49; R260). -/
def execBit1C (s : State) : Result := .next (bitReg 1 .c s)

/-- BIT 1,D (CB 4A; R260). -/
def execBit1D (s : State) : Result := .next (bitReg 1 .d s)

/-- BIT 1,E (CB 4B; R260). -/
def execBit1E (s : State) : Result := .next (bitReg 1 .e s)

/-- BIT 1,H (CB 4C; R260). -/
def execBit1H (s : State) : Result := .next (bitReg 1 .h s)

/-- BIT 1,L (CB 4D; R260). -/
def execBit1L (s : State) : Result := .next (bitReg 1 .l s)

/-- BIT 1,(HL) (CB 4E; R261). -/
def execBit1AtHL (s : State) : Result := .next (bitMem 1 s)

/-- BIT 1,A (CB 4F; R260). -/
def execBit1A (s : State) : Result := .next (bitReg 1 .a s)

/-- BIT 2,B (CB 50; R260). -/
def execBit2B (s : State) : Result := .next (bitReg 2 .b s)

/-- BIT 2,C (CB 51; R260). -/
def execBit2C (s : State) : Result := .next (bitReg 2 .c s)

/-- BIT 2,D (CB 52; R260). -/
def execBit2D (s : State) : Result := .next (bitReg 2 .d s)

/-- BIT 2,E (CB 53; R260). -/
def execBit2E (s : State) : Result := .next (bitReg 2 .e s)

/-- BIT 2,H (CB 54; R260). -/
def execBit2H (s : State) : Result := .next (bitReg 2 .h s)

/-- BIT 2,L (CB 55; R260). -/
def execBit2L (s : State) : Result := .next (bitReg 2 .l s)

/-- BIT 2,(HL) (CB 56; R261). -/
def execBit2AtHL (s : State) : Result := .next (bitMem 2 s)

/-- BIT 2,A (CB 57; R260). -/
def execBit2A (s : State) : Result := .next (bitReg 2 .a s)

/-- BIT 3,B (CB 58; R260). -/
def execBit3B (s : State) : Result := .next (bitReg 3 .b s)

/-- BIT 3,C (CB 59; R260). -/
def execBit3C (s : State) : Result := .next (bitReg 3 .c s)

/-- BIT 3,D (CB 5A; R260). -/
def execBit3D (s : State) : Result := .next (bitReg 3 .d s)

/-- BIT 3,E (CB 5B; R260). -/
def execBit3E (s : State) : Result := .next (bitReg 3 .e s)

/-- BIT 3,H (CB 5C; R260). -/
def execBit3H (s : State) : Result := .next (bitReg 3 .h s)

/-- BIT 3,L (CB 5D; R260). -/
def execBit3L (s : State) : Result := .next (bitReg 3 .l s)

/-- BIT 3,(HL) (CB 5E; R261). -/
def execBit3AtHL (s : State) : Result := .next (bitMem 3 s)

/-- BIT 3,A (CB 5F; R260). -/
def execBit3A (s : State) : Result := .next (bitReg 3 .a s)

/-- BIT 4,B (CB 60; R260). -/
def execBit4B (s : State) : Result := .next (bitReg 4 .b s)

/-- BIT 4,C (CB 61; R260). -/
def execBit4C (s : State) : Result := .next (bitReg 4 .c s)

/-- BIT 4,D (CB 62; R260). -/
def execBit4D (s : State) : Result := .next (bitReg 4 .d s)

/-- BIT 4,E (CB 63; R260). -/
def execBit4E (s : State) : Result := .next (bitReg 4 .e s)

/-- BIT 4,H (CB 64; R260). -/
def execBit4H (s : State) : Result := .next (bitReg 4 .h s)

/-- BIT 4,L (CB 65; R260). -/
def execBit4L (s : State) : Result := .next (bitReg 4 .l s)

/-- BIT 4,(HL) (CB 66; R261). -/
def execBit4AtHL (s : State) : Result := .next (bitMem 4 s)

/-- BIT 4,A (CB 67; R260). -/
def execBit4A (s : State) : Result := .next (bitReg 4 .a s)

/-- BIT 5,B (CB 68; R260). -/
def execBit5B (s : State) : Result := .next (bitReg 5 .b s)

/-- BIT 5,C (CB 69; R260). -/
def execBit5C (s : State) : Result := .next (bitReg 5 .c s)

/-- BIT 5,D (CB 6A; R260). -/
def execBit5D (s : State) : Result := .next (bitReg 5 .d s)

/-- BIT 5,E (CB 6B; R260). -/
def execBit5E (s : State) : Result := .next (bitReg 5 .e s)

/-- BIT 5,H (CB 6C; R260). -/
def execBit5H (s : State) : Result := .next (bitReg 5 .h s)

/-- BIT 5,L (CB 6D; R260). -/
def execBit5L (s : State) : Result := .next (bitReg 5 .l s)

/-- BIT 5,(HL) (CB 6E; R261). -/
def execBit5AtHL (s : State) : Result := .next (bitMem 5 s)

/-- BIT 5,A (CB 6F; R260). -/
def execBit5A (s : State) : Result := .next (bitReg 5 .a s)

/-- BIT 6,B (CB 70; R260). -/
def execBit6B (s : State) : Result := .next (bitReg 6 .b s)

/-- BIT 6,C (CB 71; R260). -/
def execBit6C (s : State) : Result := .next (bitReg 6 .c s)

/-- BIT 6,D (CB 72; R260). -/
def execBit6D (s : State) : Result := .next (bitReg 6 .d s)

/-- BIT 6,E (CB 73; R260). -/
def execBit6E (s : State) : Result := .next (bitReg 6 .e s)

/-- BIT 6,H (CB 74; R260). -/
def execBit6H (s : State) : Result := .next (bitReg 6 .h s)

/-- BIT 6,L (CB 75; R260). -/
def execBit6L (s : State) : Result := .next (bitReg 6 .l s)

/-- BIT 6,(HL) (CB 76; R261). -/
def execBit6AtHL (s : State) : Result := .next (bitMem 6 s)

/-- BIT 6,A (CB 77; R260). -/
def execBit6A (s : State) : Result := .next (bitReg 6 .a s)

/-- BIT 7,B (CB 78; R260). -/
def execBit7B (s : State) : Result := .next (bitReg 7 .b s)

/-- BIT 7,C (CB 79; R260). -/
def execBit7C (s : State) : Result := .next (bitReg 7 .c s)

/-- BIT 7,D (CB 7A; R260). -/
def execBit7D (s : State) : Result := .next (bitReg 7 .d s)

/-- BIT 7,E (CB 7B; R260). -/
def execBit7E (s : State) : Result := .next (bitReg 7 .e s)

/-- BIT 7,H (CB 7C; R260). -/
def execBit7H (s : State) : Result := .next (bitReg 7 .h s)

/-- BIT 7,L (CB 7D; R260). -/
def execBit7L (s : State) : Result := .next (bitReg 7 .l s)

/-- BIT 7,(HL) (CB 7E; R261). -/
def execBit7AtHL (s : State) : Result := .next (bitMem 7 s)

/-- BIT 7,A (CB 7F; R260). -/
def execBit7A (s : State) : Result := .next (bitReg 7 .a s)

/-- RES 0,B (CB 80; R262). -/
def execRes0B (s : State) : Result := .next (resReg 0 .b s)

/-- RES 0,C (CB 81; R262). -/
def execRes0C (s : State) : Result := .next (resReg 0 .c s)

/-- RES 0,D (CB 82; R262). -/
def execRes0D (s : State) : Result := .next (resReg 0 .d s)

/-- RES 0,E (CB 83; R262). -/
def execRes0E (s : State) : Result := .next (resReg 0 .e s)

/-- RES 0,H (CB 84; R262). -/
def execRes0H (s : State) : Result := .next (resReg 0 .h s)

/-- RES 0,L (CB 85; R262). -/
def execRes0L (s : State) : Result := .next (resReg 0 .l s)

/-- RES 0,(HL) (CB 86; R263). -/
def execRes0AtHL (s : State) : Result := .next (resMem 0 s)

/-- RES 0,A (CB 87; R262). -/
def execRes0A (s : State) : Result := .next (resReg 0 .a s)

/-- RES 1,B (CB 88; R262). -/
def execRes1B (s : State) : Result := .next (resReg 1 .b s)

/-- RES 1,C (CB 89; R262). -/
def execRes1C (s : State) : Result := .next (resReg 1 .c s)

/-- RES 1,D (CB 8A; R262). -/
def execRes1D (s : State) : Result := .next (resReg 1 .d s)

/-- RES 1,E (CB 8B; R262). -/
def execRes1E (s : State) : Result := .next (resReg 1 .e s)

/-- RES 1,H (CB 8C; R262). -/
def execRes1H (s : State) : Result := .next (resReg 1 .h s)

/-- RES 1,L (CB 8D; R262). -/
def execRes1L (s : State) : Result := .next (resReg 1 .l s)

/-- RES 1,(HL) (CB 8E; R263). -/
def execRes1AtHL (s : State) : Result := .next (resMem 1 s)

/-- RES 1,A (CB 8F; R262). -/
def execRes1A (s : State) : Result := .next (resReg 1 .a s)

/-- RES 2,B (CB 90; R262). -/
def execRes2B (s : State) : Result := .next (resReg 2 .b s)

/-- RES 2,C (CB 91; R262). -/
def execRes2C (s : State) : Result := .next (resReg 2 .c s)

/-- RES 2,D (CB 92; R262). -/
def execRes2D (s : State) : Result := .next (resReg 2 .d s)

/-- RES 2,E (CB 93; R262). -/
def execRes2E (s : State) : Result := .next (resReg 2 .e s)

/-- RES 2,H (CB 94; R262). -/
def execRes2H (s : State) : Result := .next (resReg 2 .h s)

/-- RES 2,L (CB 95; R262). -/
def execRes2L (s : State) : Result := .next (resReg 2 .l s)

/-- RES 2,(HL) (CB 96; R263). -/
def execRes2AtHL (s : State) : Result := .next (resMem 2 s)

/-- RES 2,A (CB 97; R262). -/
def execRes2A (s : State) : Result := .next (resReg 2 .a s)

/-- RES 3,B (CB 98; R262). -/
def execRes3B (s : State) : Result := .next (resReg 3 .b s)

/-- RES 3,C (CB 99; R262). -/
def execRes3C (s : State) : Result := .next (resReg 3 .c s)

/-- RES 3,D (CB 9A; R262). -/
def execRes3D (s : State) : Result := .next (resReg 3 .d s)

/-- RES 3,E (CB 9B; R262). -/
def execRes3E (s : State) : Result := .next (resReg 3 .e s)

/-- RES 3,H (CB 9C; R262). -/
def execRes3H (s : State) : Result := .next (resReg 3 .h s)

/-- RES 3,L (CB 9D; R262). -/
def execRes3L (s : State) : Result := .next (resReg 3 .l s)

/-- RES 3,(HL) (CB 9E; R263). -/
def execRes3AtHL (s : State) : Result := .next (resMem 3 s)

/-- RES 3,A (CB 9F; R262). -/
def execRes3A (s : State) : Result := .next (resReg 3 .a s)

/-- RES 4,B (CB A0; R262). -/
def execRes4B (s : State) : Result := .next (resReg 4 .b s)

/-- RES 4,C (CB A1; R262). -/
def execRes4C (s : State) : Result := .next (resReg 4 .c s)

/-- RES 4,D (CB A2; R262). -/
def execRes4D (s : State) : Result := .next (resReg 4 .d s)

/-- RES 4,E (CB A3; R262). -/
def execRes4E (s : State) : Result := .next (resReg 4 .e s)

/-- RES 4,H (CB A4; R262). -/
def execRes4H (s : State) : Result := .next (resReg 4 .h s)

/-- RES 4,L (CB A5; R262). -/
def execRes4L (s : State) : Result := .next (resReg 4 .l s)

/-- RES 4,(HL) (CB A6; R263). -/
def execRes4AtHL (s : State) : Result := .next (resMem 4 s)

/-- RES 4,A (CB A7; R262). -/
def execRes4A (s : State) : Result := .next (resReg 4 .a s)

/-- RES 5,B (CB A8; R262). -/
def execRes5B (s : State) : Result := .next (resReg 5 .b s)

/-- RES 5,C (CB A9; R262). -/
def execRes5C (s : State) : Result := .next (resReg 5 .c s)

/-- RES 5,D (CB AA; R262). -/
def execRes5D (s : State) : Result := .next (resReg 5 .d s)

/-- RES 5,E (CB AB; R262). -/
def execRes5E (s : State) : Result := .next (resReg 5 .e s)

/-- RES 5,H (CB AC; R262). -/
def execRes5H (s : State) : Result := .next (resReg 5 .h s)

/-- RES 5,L (CB AD; R262). -/
def execRes5L (s : State) : Result := .next (resReg 5 .l s)

/-- RES 5,(HL) (CB AE; R263). -/
def execRes5AtHL (s : State) : Result := .next (resMem 5 s)

/-- RES 5,A (CB AF; R262). -/
def execRes5A (s : State) : Result := .next (resReg 5 .a s)

/-- RES 6,B (CB B0; R262). -/
def execRes6B (s : State) : Result := .next (resReg 6 .b s)

/-- RES 6,C (CB B1; R262). -/
def execRes6C (s : State) : Result := .next (resReg 6 .c s)

/-- RES 6,D (CB B2; R262). -/
def execRes6D (s : State) : Result := .next (resReg 6 .d s)

/-- RES 6,E (CB B3; R262). -/
def execRes6E (s : State) : Result := .next (resReg 6 .e s)

/-- RES 6,H (CB B4; R262). -/
def execRes6H (s : State) : Result := .next (resReg 6 .h s)

/-- RES 6,L (CB B5; R262). -/
def execRes6L (s : State) : Result := .next (resReg 6 .l s)

/-- RES 6,(HL) (CB B6; R263). -/
def execRes6AtHL (s : State) : Result := .next (resMem 6 s)

/-- RES 6,A (CB B7; R262). -/
def execRes6A (s : State) : Result := .next (resReg 6 .a s)

/-- RES 7,B (CB B8; R262). -/
def execRes7B (s : State) : Result := .next (resReg 7 .b s)

/-- RES 7,C (CB B9; R262). -/
def execRes7C (s : State) : Result := .next (resReg 7 .c s)

/-- RES 7,D (CB BA; R262). -/
def execRes7D (s : State) : Result := .next (resReg 7 .d s)

/-- RES 7,E (CB BB; R262). -/
def execRes7E (s : State) : Result := .next (resReg 7 .e s)

/-- RES 7,H (CB BC; R262). -/
def execRes7H (s : State) : Result := .next (resReg 7 .h s)

/-- RES 7,L (CB BD; R262). -/
def execRes7L (s : State) : Result := .next (resReg 7 .l s)

/-- RES 7,(HL) (CB BE; R263). -/
def execRes7AtHL (s : State) : Result := .next (resMem 7 s)

/-- RES 7,A (CB BF; R262). -/
def execRes7A (s : State) : Result := .next (resReg 7 .a s)

/-- SET 0,B (CB C0; R264). -/
def execSet0B (s : State) : Result := .next (setReg 0 .b s)

/-- SET 0,C (CB C1; R264). -/
def execSet0C (s : State) : Result := .next (setReg 0 .c s)

/-- SET 0,D (CB C2; R264). -/
def execSet0D (s : State) : Result := .next (setReg 0 .d s)

/-- SET 0,E (CB C3; R264). -/
def execSet0E (s : State) : Result := .next (setReg 0 .e s)

/-- SET 0,H (CB C4; R264). -/
def execSet0H (s : State) : Result := .next (setReg 0 .h s)

/-- SET 0,L (CB C5; R264). -/
def execSet0L (s : State) : Result := .next (setReg 0 .l s)

/-- SET 0,(HL) (CB C6; R265). -/
def execSet0AtHL (s : State) : Result := .next (setMem 0 s)

/-- SET 0,A (CB C7; R264). -/
def execSet0A (s : State) : Result := .next (setReg 0 .a s)

/-- SET 1,B (CB C8; R264). -/
def execSet1B (s : State) : Result := .next (setReg 1 .b s)

/-- SET 1,C (CB C9; R264). -/
def execSet1C (s : State) : Result := .next (setReg 1 .c s)

/-- SET 1,D (CB CA; R264). -/
def execSet1D (s : State) : Result := .next (setReg 1 .d s)

/-- SET 1,E (CB CB; R264). -/
def execSet1E (s : State) : Result := .next (setReg 1 .e s)

/-- SET 1,H (CB CC; R264). -/
def execSet1H (s : State) : Result := .next (setReg 1 .h s)

/-- SET 1,L (CB CD; R264). -/
def execSet1L (s : State) : Result := .next (setReg 1 .l s)

/-- SET 1,(HL) (CB CE; R265). -/
def execSet1AtHL (s : State) : Result := .next (setMem 1 s)

/-- SET 1,A (CB CF; R264). -/
def execSet1A (s : State) : Result := .next (setReg 1 .a s)

/-- SET 2,B (CB D0; R264). -/
def execSet2B (s : State) : Result := .next (setReg 2 .b s)

/-- SET 2,C (CB D1; R264). -/
def execSet2C (s : State) : Result := .next (setReg 2 .c s)

/-- SET 2,D (CB D2; R264). -/
def execSet2D (s : State) : Result := .next (setReg 2 .d s)

/-- SET 2,E (CB D3; R264). -/
def execSet2E (s : State) : Result := .next (setReg 2 .e s)

/-- SET 2,H (CB D4; R264). -/
def execSet2H (s : State) : Result := .next (setReg 2 .h s)

/-- SET 2,L (CB D5; R264). -/
def execSet2L (s : State) : Result := .next (setReg 2 .l s)

/-- SET 2,(HL) (CB D6; R265). -/
def execSet2AtHL (s : State) : Result := .next (setMem 2 s)

/-- SET 2,A (CB D7; R264). -/
def execSet2A (s : State) : Result := .next (setReg 2 .a s)

/-- SET 3,B (CB D8; R264). -/
def execSet3B (s : State) : Result := .next (setReg 3 .b s)

/-- SET 3,C (CB D9; R264). -/
def execSet3C (s : State) : Result := .next (setReg 3 .c s)

/-- SET 3,D (CB DA; R264). -/
def execSet3D (s : State) : Result := .next (setReg 3 .d s)

/-- SET 3,E (CB DB; R264). -/
def execSet3E (s : State) : Result := .next (setReg 3 .e s)

/-- SET 3,H (CB DC; R264). -/
def execSet3H (s : State) : Result := .next (setReg 3 .h s)

/-- SET 3,L (CB DD; R264). -/
def execSet3L (s : State) : Result := .next (setReg 3 .l s)

/-- SET 3,(HL) (CB DE; R265). -/
def execSet3AtHL (s : State) : Result := .next (setMem 3 s)

/-- SET 3,A (CB DF; R264). -/
def execSet3A (s : State) : Result := .next (setReg 3 .a s)

/-- SET 4,B (CB E0; R264). -/
def execSet4B (s : State) : Result := .next (setReg 4 .b s)

/-- SET 4,C (CB E1; R264). -/
def execSet4C (s : State) : Result := .next (setReg 4 .c s)

/-- SET 4,D (CB E2; R264). -/
def execSet4D (s : State) : Result := .next (setReg 4 .d s)

/-- SET 4,E (CB E3; R264). -/
def execSet4E (s : State) : Result := .next (setReg 4 .e s)

/-- SET 4,H (CB E4; R264). -/
def execSet4H (s : State) : Result := .next (setReg 4 .h s)

/-- SET 4,L (CB E5; R264). -/
def execSet4L (s : State) : Result := .next (setReg 4 .l s)

/-- SET 4,(HL) (CB E6; R265). -/
def execSet4AtHL (s : State) : Result := .next (setMem 4 s)

/-- SET 4,A (CB E7; R264). -/
def execSet4A (s : State) : Result := .next (setReg 4 .a s)

/-- SET 5,B (CB E8; R264). -/
def execSet5B (s : State) : Result := .next (setReg 5 .b s)

/-- SET 5,C (CB E9; R264). -/
def execSet5C (s : State) : Result := .next (setReg 5 .c s)

/-- SET 5,D (CB EA; R264). -/
def execSet5D (s : State) : Result := .next (setReg 5 .d s)

/-- SET 5,E (CB EB; R264). -/
def execSet5E (s : State) : Result := .next (setReg 5 .e s)

/-- SET 5,H (CB EC; R264). -/
def execSet5H (s : State) : Result := .next (setReg 5 .h s)

/-- SET 5,L (CB ED; R264). -/
def execSet5L (s : State) : Result := .next (setReg 5 .l s)

/-- SET 5,(HL) (CB EE; R265). -/
def execSet5AtHL (s : State) : Result := .next (setMem 5 s)

/-- SET 5,A (CB EF; R264). -/
def execSet5A (s : State) : Result := .next (setReg 5 .a s)

/-- SET 6,B (CB F0; R264). -/
def execSet6B (s : State) : Result := .next (setReg 6 .b s)

/-- SET 6,C (CB F1; R264). -/
def execSet6C (s : State) : Result := .next (setReg 6 .c s)

/-- SET 6,D (CB F2; R264). -/
def execSet6D (s : State) : Result := .next (setReg 6 .d s)

/-- SET 6,E (CB F3; R264). -/
def execSet6E (s : State) : Result := .next (setReg 6 .e s)

/-- SET 6,H (CB F4; R264). -/
def execSet6H (s : State) : Result := .next (setReg 6 .h s)

/-- SET 6,L (CB F5; R264). -/
def execSet6L (s : State) : Result := .next (setReg 6 .l s)

/-- SET 6,(HL) (CB F6; R265). -/
def execSet6AtHL (s : State) : Result := .next (setMem 6 s)

/-- SET 6,A (CB F7; R264). -/
def execSet6A (s : State) : Result := .next (setReg 6 .a s)

/-- SET 7,B (CB F8; R264). -/
def execSet7B (s : State) : Result := .next (setReg 7 .b s)

/-- SET 7,C (CB F9; R264). -/
def execSet7C (s : State) : Result := .next (setReg 7 .c s)

/-- SET 7,D (CB FA; R264). -/
def execSet7D (s : State) : Result := .next (setReg 7 .d s)

/-- SET 7,E (CB FB; R264). -/
def execSet7E (s : State) : Result := .next (setReg 7 .e s)

/-- SET 7,H (CB FC; R264). -/
def execSet7H (s : State) : Result := .next (setReg 7 .h s)

/-- SET 7,L (CB FD; R264). -/
def execSet7L (s : State) : Result := .next (setReg 7 .l s)

/-- SET 7,(HL) (CB FE; R265). -/
def execSet7AtHL (s : State) : Result := .next (setMem 7 s)

/-- SET 7,A (CB FF; R264). -/
def execSet7A (s : State) : Result := .next (setReg 7 .a s)

end Sys2Proof.Machine
end

