-- ==== Sys2Proof/Machine/Control.lean ====
section
/-! DEFINITION. Jumps, calls and returns (46 R270-R281). PC is past the whole instruction when its
operation runs (30 R124). -/

namespace Sys2Proof.Machine

/-- JP nn (46 R271). -/
def jump (nn : Word) (s : State) : State := ((s.advance 3).setPc nn).charge 16

/-- JP cc,nn (46 R272). -/
def jumpIf (cc : Cond) (nn : Word) (s : State) : State :=
  let t := s.advance 3
  if t.cpu.f.holds cc then (t.setPc nn).charge 16 else t.charge 12

/-- JP HL: no memory is read (46 R273). -/
def jumpHl (s : State) : State :=
  let t := s.advance 1
  (t.setPc t.hl).charge 4

/-- JR e (46 R274). -/
def jumpRel (e : Byte) (s : State) : State :=
  let t := s.advance 2
  (t.setPc (t.cpu.pc + sext16 e)).charge 12

/-- JR cc,e (46 R275). -/
def jumpRelIf (cc : Cond) (e : Byte) (s : State) : State :=
  let t := s.advance 2
  if t.cpu.f.holds cc then (t.setPc (t.cpu.pc + sext16 e)).charge 12 else t.charge 8

/-- CALL nn: the address of the next instruction is pushed (46 R276). -/
def callAbs (nn : Word) (s : State) : State :=
  let t := s.advance 3
  ((t.push16 t.cpu.pc).setPc nn).charge 24

/-- CALL cc,nn: not taken, nothing is pushed (46 R277). -/
def callIf (cc : Cond) (nn : Word) (s : State) : State :=
  let t := s.advance 3
  if t.cpu.f.holds cc then ((t.push16 t.cpu.pc).setPc nn).charge 24 else t.charge 12

/-- RET (46 R278). -/
def returnAbs (s : State) : State :=
  let t := s.advance 1
  (t.popped.setPc t.popValue).charge 16

/-- RET cc: not taken, nothing is popped (46 R279). -/
def returnIf (cc : Cond) (s : State) : State :=
  let t := s.advance 1
  if t.cpu.f.holds cc then (t.popped.setPc t.popValue).charge 20 else t.charge 8

/-- RETI: IME takes effect at once (46 R280). -/
def returnEnable (s : State) : State := ((s.advance 1).returnFromInterrupt).charge 16

/-- RST t (46 R281). -/
def restart (target : Word) (s : State) : State :=
  let t := s.advance 1
  ((t.push16 t.cpu.pc).setPc target).charge 16

/-! ### The meanings -/

/-- JR e (18; R274). -/
def execJr (e : Byte) (s : State) : Result := .next (jumpRel e s)

/-- JR NZ,e (20; R275). -/
def execJrNZ (e : Byte) (s : State) : Result := .next (jumpRelIf .nz e s)

/-- JR Z,e (28; R275). -/
def execJrZ (e : Byte) (s : State) : Result := .next (jumpRelIf .z e s)

/-- JR NC,e (30; R275). -/
def execJrNC (e : Byte) (s : State) : Result := .next (jumpRelIf .nc e s)

/-- JR C,e (38; R275). -/
def execJrC (e : Byte) (s : State) : Result := .next (jumpRelIf .c e s)

/-- RET NZ (C0; R279). -/
def execRetNZ (s : State) : Result := .next (returnIf .nz s)

/-- JP NZ,nn (C2; R272). -/
def execJpNZ (nn : Word) (s : State) : Result := .next (jumpIf .nz nn s)

/-- JP nn (C3; R271). -/
def execJp (nn : Word) (s : State) : Result := .next (jump nn s)

/-- CALL NZ,nn (C4; R277). -/
def execCallNZ (nn : Word) (s : State) : Result := .next (callIf .nz nn s)

/-- RST 00H (C7; R281). -/
def execRst00 (s : State) : Result := .next (restart 0x00 s)

/-- RET Z (C8; R279). -/
def execRetZ (s : State) : Result := .next (returnIf .z s)

/-- RET (C9; R278). -/
def execRet (s : State) : Result := .next (returnAbs s)

/-- JP Z,nn (CA; R272). -/
def execJpZ (nn : Word) (s : State) : Result := .next (jumpIf .z nn s)

/-- CALL Z,nn (CC; R277). -/
def execCallZ (nn : Word) (s : State) : Result := .next (callIf .z nn s)

/-- CALL nn (CD; R276). -/
def execCall (nn : Word) (s : State) : Result := .next (callAbs nn s)

/-- RST 08H (CF; R281). -/
def execRst08 (s : State) : Result := .next (restart 0x08 s)

/-- RET NC (D0; R279). -/
def execRetNC (s : State) : Result := .next (returnIf .nc s)

/-- JP NC,nn (D2; R272). -/
def execJpNC (nn : Word) (s : State) : Result := .next (jumpIf .nc nn s)

/-- CALL NC,nn (D4; R277). -/
def execCallNC (nn : Word) (s : State) : Result := .next (callIf .nc nn s)

/-- RST 10H (D7; R281). -/
def execRst10 (s : State) : Result := .next (restart 0x10 s)

/-- RET C (D8; R279). -/
def execRetC (s : State) : Result := .next (returnIf .c s)

/-- RETI (D9; R280). -/
def execReti (s : State) : Result := .next (returnEnable s)

/-- JP C,nn (DA; R272). -/
def execJpC (nn : Word) (s : State) : Result := .next (jumpIf .c nn s)

/-- CALL C,nn (DC; R277). -/
def execCallC (nn : Word) (s : State) : Result := .next (callIf .c nn s)

/-- RST 18H (DF; R281). -/
def execRst18 (s : State) : Result := .next (restart 0x18 s)

/-- RST 20H (E7; R281). -/
def execRst20 (s : State) : Result := .next (restart 0x20 s)

/-- JP HL (E9; R273). -/
def execJpHL (s : State) : Result := .next (jumpHl s)

/-- RST 28H (EF; R281). -/
def execRst28 (s : State) : Result := .next (restart 0x28 s)

/-- RST 30H (F7; R281). -/
def execRst30 (s : State) : Result := .next (restart 0x30 s)

/-- RST 38H (FF; R281). -/
def execRst38 (s : State) : Result := .next (restart 0x38 s)

end Sys2Proof.Machine
end

