-- ==== Sys2Proof/Machine/CpuControl.lean ====
section
/-! DEFINITION. NOP, HALT, STOP, DI, EI and the illegal opcode bytes (47 R290-R296). -/

namespace Sys2Proof.Machine

/-- NOP (47 R290). -/
def noOperation (s : State) : State := (s.advance 1).charge 4

/-- HALT: the halt bug when IME is 0 and a source is requested, else Halted (47 R291). -/
def haltCpu (s : State) : State :=
  let t := s.advance 1
  (if t.cpu.ime = false ∧ t.requested ≠ 0 ∧ t.params.haltBug = true then
    t.setCpu { t.cpu with haltBug := true }
  else t.setRun .halted).charge 4

/-- STOP: the DIV-write reset of the divider, then Stopped (47 R292). -/
def stopCpu (s : State) : State :=
  let t := s.advance 2
  ((t.setTimer (t.timer.resetDiv t.params.timaReloadDelay)).setRun .stopped).charge 4

/-- DI (47 R293). -/
def disableInterrupts (s : State) : State :=
  let t := s.advance 1
  (t.setCpu { t.cpu with ime := false, eiPending := false }).charge 4

/-- EI: IME follows at the end of the next instruction (47 R294, R295). -/
def enableInterrupts (s : State) : State :=
  let t := s.advance 1
  (t.setCpu { t.cpu with eiPending := true }).charge 4

/-! ### The meanings -/

/-- NOP (00; R290). -/
def execNop (s : State) : Result := .next (noOperation s)

/-- STOP (10; R292). -/
def execStop (s : State) : Result := .next (stopCpu s)

/-- HALT (76; R291). -/
def execHalt (s : State) : Result := .next (haltCpu s)

/-- ILLEGAL (0xD3) (D3; R296). -/
def execIllegalD3 (s : State) : Result := .next (s.illegalOpcode 0xD3)

/-- ILLEGAL (0xDB) (DB; R296). -/
def execIllegalDB (s : State) : Result := .next (s.illegalOpcode 0xDB)

/-- ILLEGAL (0xDD) (DD; R296). -/
def execIllegalDD (s : State) : Result := .next (s.illegalOpcode 0xDD)

/-- ILLEGAL (0xE3) (E3; R296). -/
def execIllegalE3 (s : State) : Result := .next (s.illegalOpcode 0xE3)

/-- ILLEGAL (0xE4) (E4; R296). -/
def execIllegalE4 (s : State) : Result := .next (s.illegalOpcode 0xE4)

/-- ILLEGAL (0xEB) (EB; R296). -/
def execIllegalEB (s : State) : Result := .next (s.illegalOpcode 0xEB)

/-- ILLEGAL (0xEC) (EC; R296). -/
def execIllegalEC (s : State) : Result := .next (s.illegalOpcode 0xEC)

/-- ILLEGAL (0xED) (ED; R296). -/
def execIllegalED (s : State) : Result := .next (s.illegalOpcode 0xED)

/-- DI (F3; R293). -/
def execDi (s : State) : Result := .next (disableInterrupts s)

/-- ILLEGAL (0xF4) (F4; R296). -/
def execIllegalF4 (s : State) : Result := .next (s.illegalOpcode 0xF4)

/-- EI (FB; R294). -/
def execEi (s : State) : Result := .next (enableInterrupts s)

/-- ILLEGAL (0xFC) (FC; R296). -/
def execIllegalFC (s : State) : Result := .next (s.illegalOpcode 0xFC)

/-- ILLEGAL (0xFD) (FD; R296). -/
def execIllegalFD (s : State) : Result := .next (s.illegalOpcode 0xFD)

end Sys2Proof.Machine
end

