-- ==== Sys2Proof/Machine/Load16.lean ====
section
/-! DEFINITION. The 16-bit loads and stack transfers (41 R181-R189). -/

namespace Sys2Proof.Machine

/-- LD rr,nn (41 R181). -/
def ldPairImm (p : Pair) (nn : Word) (s : State) : State :=
  ((s.advance 3).setPair p nn).charge 12

/-- LD (nn),SP: the low byte at nn, the high byte at nn + 1 (41 R182). -/
def ldMemSp (nn : Word) (s : State) : State :=
  let t := s.advance 3
  (t.write16 nn t.cpu.sp).charge 20

/-- LD SP,HL (41 R183). -/
def ldSpHl (s : State) : State :=
  let t := s.advance 1
  (t.setSp t.hl).charge 8

/-- LD HL,SP+e (41 R185). -/
def ldHlSpE (e : Byte) (s : State) : State :=
  let t := s.advance 2
  let r := addSpResult t.cpu.sp e
  ((t.setPair .hl r.1).setFlags r.2).charge 12

/-- PUSH rr (41 R187). -/
def pushPair (p : StackPair) (s : State) : State :=
  let t := s.advance 1
  (t.push16 (t.cpu.getStackPair p)).charge 16

/-- POP rr (41 R188, R189). -/
def popPair (p : StackPair) (s : State) : State :=
  let t := s.advance 1
  let u := t.popped
  (u.setCpu (u.cpu.setStackPair p t.popValue)).charge 12

/-! ### The meanings -/

/-- LD BC,nn (01; R181). -/
def execLdBCNn (nn : Word) (s : State) : Result := .next (ldPairImm .bc nn s)

/-- LD (nn),SP (08; R182). -/
def execLdAtNnSP (nn : Word) (s : State) : Result := .next (ldMemSp nn s)

/-- LD DE,nn (11; R181). -/
def execLdDENn (nn : Word) (s : State) : Result := .next (ldPairImm .de nn s)

/-- LD HL,nn (21; R181). -/
def execLdHLNn (nn : Word) (s : State) : Result := .next (ldPairImm .hl nn s)

/-- LD SP,nn (31; R181). -/
def execLdSPNn (nn : Word) (s : State) : Result := .next (ldPairImm .sp nn s)

/-- POP BC (C1; R188). -/
def execPopBC (s : State) : Result := .next (popPair .bc s)

/-- PUSH BC (C5; R187). -/
def execPushBC (s : State) : Result := .next (pushPair .bc s)

/-- POP DE (D1; R188). -/
def execPopDE (s : State) : Result := .next (popPair .de s)

/-- PUSH DE (D5; R187). -/
def execPushDE (s : State) : Result := .next (pushPair .de s)

/-- POP HL (E1; R188). -/
def execPopHL (s : State) : Result := .next (popPair .hl s)

/-- PUSH HL (E5; R187). -/
def execPushHL (s : State) : Result := .next (pushPair .hl s)

/-- POP AF (F1; R189). -/
def execPopAF (s : State) : Result := .next (popPair .af s)

/-- PUSH AF (F5; R187). -/
def execPushAF (s : State) : Result := .next (pushPair .af s)

/-- LD HL,SP+e (F8; R185). -/
def execLdHLSPE (e : Byte) (s : State) : Result := .next (ldHlSpE e s)

/-- LD SP,HL (F9; R183). -/
def execLdSPHL (s : State) : Result := .next (ldSpHl s)

end Sys2Proof.Machine
end

