-- ==== Sys2Proof/Machine/Load8.lean ====
section
/-! DEFINITION. The 8-bit loads (40 R150-R168): the shared operations, then one meaning per
instruction. No load writes a flag. -/

namespace Sys2Proof.Machine

/-- LD r,r' (40 R150). -/
def ldRegReg (dst src : Reg8) (s : State) : State :=
  let t := s.advance 1
  (t.setReg dst (t.reg src)).charge 4

/-- LD r,(HL) (40 R151). -/
def ldRegMem (dst : Reg8) (s : State) : State :=
  let t := s.advance 1
  (t.setReg dst (t.read8 t.hl)).charge 8

/-- LD (HL),r (40 R152). -/
def ldMemReg (src : Reg8) (s : State) : State :=
  let t := s.advance 1
  (t.write8 t.hl (t.reg src)).charge 8

/-- LD r,n (40 R153). -/
def ldRegImm (dst : Reg8) (n : Byte) (s : State) : State :=
  ((s.advance 2).setReg dst n).charge 8

/-- LD (HL),n (40 R154). -/
def ldMemImm (n : Byte) (s : State) : State :=
  let t := s.advance 2
  (t.write8 t.hl n).charge 12

/-- `0xFF00 + n`, the I/O page address of LDH (30 R123). -/
def ioAddress (n : Byte) : Word := pair 0xFF n

/-- A load of A from an address, by an instruction of `len` bytes and `cost` T-cycles
(40 R155, R156, R159, R161, R163). -/
def ldAccMem (len cost : Nat) (addr : Word) (s : State) : State :=
  let t := s.advance len
  (t.setReg .a (t.read8 addr)).charge cost

/-- A store of A to an address, by an instruction of `len` bytes and `cost` T-cycles
(40 R157, R158, R160, R162, R164). -/
def ldMemAcc (len cost : Nat) (addr : Word) (s : State) : State :=
  let t := s.advance len
  (t.write8 addr (t.reg .a)).charge cost

/-- LD (HL+),A and LD (HL-),A: the store, then HL moved by `d` (40 R165, R166). -/
def ldMemHlStep (d : Word) (s : State) : State :=
  let t := s.advance 1
  let u := t.write8 t.hl (t.reg .a)
  (u.setPair .hl (t.hl + d)).charge 8

/-- LD A,(HL+) and LD A,(HL-): the load, then HL moved by `d` (40 R167, R168). -/
def ldAccHlStep (d : Word) (s : State) : State :=
  let t := s.advance 1
  ((t.setReg .a (t.read8 t.hl)).setPair .hl (t.hl + d)).charge 8

/-! ### The meanings -/

/-- LD (BC),A (02; R157). -/
def execLdAtBCA (s : State) : Result := .next (ldMemAcc 1 8 (s.pairOf .bc) s)

/-- LD B,n (06; R153). -/
def execLdBN (n : Byte) (s : State) : Result := .next (ldRegImm .b n s)

/-- LD A,(BC) (0A; R155). -/
def execLdAAtBC (s : State) : Result := .next (ldAccMem 1 8 (s.pairOf .bc) s)

/-- LD C,n (0E; R153). -/
def execLdCN (n : Byte) (s : State) : Result := .next (ldRegImm .c n s)

/-- LD (DE),A (12; R158). -/
def execLdAtDEA (s : State) : Result := .next (ldMemAcc 1 8 (s.pairOf .de) s)

/-- LD D,n (16; R153). -/
def execLdDN (n : Byte) (s : State) : Result := .next (ldRegImm .d n s)

/-- LD A,(DE) (1A; R156). -/
def execLdAAtDE (s : State) : Result := .next (ldAccMem 1 8 (s.pairOf .de) s)

/-- LD E,n (1E; R153). -/
def execLdEN (n : Byte) (s : State) : Result := .next (ldRegImm .e n s)

/-- LD (HL+),A (22; R165). -/
def execLdAtHLIncA (s : State) : Result := .next (ldMemHlStep 1 s)

/-- LD H,n (26; R153). -/
def execLdHN (n : Byte) (s : State) : Result := .next (ldRegImm .h n s)

/-- LD A,(HL+) (2A; R167). -/
def execLdAAtHLInc (s : State) : Result := .next (ldAccHlStep 1 s)

/-- LD L,n (2E; R153). -/
def execLdLN (n : Byte) (s : State) : Result := .next (ldRegImm .l n s)

/-- LD (HL-),A (32; R166). -/
def execLdAtHLDecA (s : State) : Result := .next (ldMemHlStep (-1) s)

/-- LD (HL),n (36; R154). -/
def execLdAtHLN (n : Byte) (s : State) : Result := .next (ldMemImm n s)

/-- LD A,(HL-) (3A; R168). -/
def execLdAAtHLDec (s : State) : Result := .next (ldAccHlStep (-1) s)

/-- LD A,n (3E; R153). -/
def execLdAN (n : Byte) (s : State) : Result := .next (ldRegImm .a n s)

/-- LD B,B (40; R150). -/
def execLdBB (s : State) : Result := .next (ldRegReg .b .b s)

/-- LD B,C (41; R150). -/
def execLdBC (s : State) : Result := .next (ldRegReg .b .c s)

/-- LD B,D (42; R150). -/
def execLdBD (s : State) : Result := .next (ldRegReg .b .d s)

/-- LD B,E (43; R150). -/
def execLdBE (s : State) : Result := .next (ldRegReg .b .e s)

/-- LD B,H (44; R150). -/
def execLdBH (s : State) : Result := .next (ldRegReg .b .h s)

/-- LD B,L (45; R150). -/
def execLdBL (s : State) : Result := .next (ldRegReg .b .l s)

/-- LD B,(HL) (46; R151). -/
def execLdBAtHL (s : State) : Result := .next (ldRegMem .b s)

/-- LD B,A (47; R150). -/
def execLdBA (s : State) : Result := .next (ldRegReg .b .a s)

/-- LD C,B (48; R150). -/
def execLdCB (s : State) : Result := .next (ldRegReg .c .b s)

/-- LD C,C (49; R150). -/
def execLdCC (s : State) : Result := .next (ldRegReg .c .c s)

/-- LD C,D (4A; R150). -/
def execLdCD (s : State) : Result := .next (ldRegReg .c .d s)

/-- LD C,E (4B; R150). -/
def execLdCE (s : State) : Result := .next (ldRegReg .c .e s)

/-- LD C,H (4C; R150). -/
def execLdCH (s : State) : Result := .next (ldRegReg .c .h s)

/-- LD C,L (4D; R150). -/
def execLdCL (s : State) : Result := .next (ldRegReg .c .l s)

/-- LD C,(HL) (4E; R151). -/
def execLdCAtHL (s : State) : Result := .next (ldRegMem .c s)

/-- LD C,A (4F; R150). -/
def execLdCA (s : State) : Result := .next (ldRegReg .c .a s)

/-- LD D,B (50; R150). -/
def execLdDB (s : State) : Result := .next (ldRegReg .d .b s)

/-- LD D,C (51; R150). -/
def execLdDC (s : State) : Result := .next (ldRegReg .d .c s)

/-- LD D,D (52; R150). -/
def execLdDD (s : State) : Result := .next (ldRegReg .d .d s)

/-- LD D,E (53; R150). -/
def execLdDE (s : State) : Result := .next (ldRegReg .d .e s)

/-- LD D,H (54; R150). -/
def execLdDH (s : State) : Result := .next (ldRegReg .d .h s)

/-- LD D,L (55; R150). -/
def execLdDL (s : State) : Result := .next (ldRegReg .d .l s)

/-- LD D,(HL) (56; R151). -/
def execLdDAtHL (s : State) : Result := .next (ldRegMem .d s)

/-- LD D,A (57; R150). -/
def execLdDA (s : State) : Result := .next (ldRegReg .d .a s)

/-- LD E,B (58; R150). -/
def execLdEB (s : State) : Result := .next (ldRegReg .e .b s)

/-- LD E,C (59; R150). -/
def execLdEC (s : State) : Result := .next (ldRegReg .e .c s)

/-- LD E,D (5A; R150). -/
def execLdED (s : State) : Result := .next (ldRegReg .e .d s)

/-- LD E,E (5B; R150). -/
def execLdEE (s : State) : Result := .next (ldRegReg .e .e s)

/-- LD E,H (5C; R150). -/
def execLdEH (s : State) : Result := .next (ldRegReg .e .h s)

/-- LD E,L (5D; R150). -/
def execLdEL (s : State) : Result := .next (ldRegReg .e .l s)

/-- LD E,(HL) (5E; R151). -/
def execLdEAtHL (s : State) : Result := .next (ldRegMem .e s)

/-- LD E,A (5F; R150). -/
def execLdEA (s : State) : Result := .next (ldRegReg .e .a s)

/-- LD H,B (60; R150). -/
def execLdHB (s : State) : Result := .next (ldRegReg .h .b s)

/-- LD H,C (61; R150). -/
def execLdHC (s : State) : Result := .next (ldRegReg .h .c s)

/-- LD H,D (62; R150). -/
def execLdHD (s : State) : Result := .next (ldRegReg .h .d s)

/-- LD H,E (63; R150). -/
def execLdHE (s : State) : Result := .next (ldRegReg .h .e s)

/-- LD H,H (64; R150). -/
def execLdHH (s : State) : Result := .next (ldRegReg .h .h s)

/-- LD H,L (65; R150). -/
def execLdHL (s : State) : Result := .next (ldRegReg .h .l s)

/-- LD H,(HL) (66; R151). -/
def execLdHAtHL (s : State) : Result := .next (ldRegMem .h s)

/-- LD H,A (67; R150). -/
def execLdHA (s : State) : Result := .next (ldRegReg .h .a s)

/-- LD L,B (68; R150). -/
def execLdLB (s : State) : Result := .next (ldRegReg .l .b s)

/-- LD L,C (69; R150). -/
def execLdLC (s : State) : Result := .next (ldRegReg .l .c s)

/-- LD L,D (6A; R150). -/
def execLdLD (s : State) : Result := .next (ldRegReg .l .d s)

/-- LD L,E (6B; R150). -/
def execLdLE (s : State) : Result := .next (ldRegReg .l .e s)

/-- LD L,H (6C; R150). -/
def execLdLH (s : State) : Result := .next (ldRegReg .l .h s)

/-- LD L,L (6D; R150). -/
def execLdLL (s : State) : Result := .next (ldRegReg .l .l s)

/-- LD L,(HL) (6E; R151). -/
def execLdLAtHL (s : State) : Result := .next (ldRegMem .l s)

/-- LD L,A (6F; R150). -/
def execLdLA (s : State) : Result := .next (ldRegReg .l .a s)

/-- LD (HL),B (70; R152). -/
def execLdAtHLB (s : State) : Result := .next (ldMemReg .b s)

/-- LD (HL),C (71; R152). -/
def execLdAtHLC (s : State) : Result := .next (ldMemReg .c s)

/-- LD (HL),D (72; R152). -/
def execLdAtHLD (s : State) : Result := .next (ldMemReg .d s)

/-- LD (HL),E (73; R152). -/
def execLdAtHLE (s : State) : Result := .next (ldMemReg .e s)

/-- LD (HL),H (74; R152). -/
def execLdAtHLH (s : State) : Result := .next (ldMemReg .h s)

/-- LD (HL),L (75; R152). -/
def execLdAtHLL (s : State) : Result := .next (ldMemReg .l s)

/-- LD (HL),A (77; R152). -/
def execLdAtHLA (s : State) : Result := .next (ldMemReg .a s)

/-- LD A,B (78; R150). -/
def execLdAB (s : State) : Result := .next (ldRegReg .a .b s)

/-- LD A,C (79; R150). -/
def execLdAC (s : State) : Result := .next (ldRegReg .a .c s)

/-- LD A,D (7A; R150). -/
def execLdAD (s : State) : Result := .next (ldRegReg .a .d s)

/-- LD A,E (7B; R150). -/
def execLdAE (s : State) : Result := .next (ldRegReg .a .e s)

/-- LD A,H (7C; R150). -/
def execLdAH (s : State) : Result := .next (ldRegReg .a .h s)

/-- LD A,L (7D; R150). -/
def execLdAL (s : State) : Result := .next (ldRegReg .a .l s)

/-- LD A,(HL) (7E; R151). -/
def execLdAAtHL (s : State) : Result := .next (ldRegMem .a s)

/-- LD A,A (7F; R150). -/
def execLdAA (s : State) : Result := .next (ldRegReg .a .a s)

/-- LDH (n),A (E0; R162). -/
def execLdhAtNA (n : Byte) (s : State) : Result := .next (ldMemAcc 2 12 (ioAddress n) s)

/-- LDH (C),A (E2; R164). -/
def execLdhAtCA (s : State) : Result := .next (ldMemAcc 1 8 (ioAddress (s.reg .c)) s)

/-- LD (nn),A (EA; R160). -/
def execLdAtNnA (nn : Word) (s : State) : Result := .next (ldMemAcc 3 16 nn s)

/-- LDH A,(n) (F0; R161). -/
def execLdhAAtN (n : Byte) (s : State) : Result := .next (ldAccMem 2 12 (ioAddress n) s)

/-- LDH A,(C) (F2; R163). -/
def execLdhAAtC (s : State) : Result := .next (ldAccMem 1 8 (ioAddress (s.reg .c)) s)

/-- LD A,(nn) (FA; R159). -/
def execLdAAtNn (nn : Word) (s : State) : Result := .next (ldAccMem 3 16 nn s)

end Sys2Proof.Machine
end

