-- ==== Sys2Proof/Machine/Rotate.lean ====
section
/-! DEFINITION. The rotates, shifts and nibble swap (44 R239-R259). -/

namespace Sys2Proof.Machine

/-- RLCA, RRCA, RLA, RRA (44 R240-R243). -/
def rotAcc (o : RotOp) (s : State) : State :=
  let t := s.advance 1
  let r := rotAccResult o (t.reg .a) t.cpu.f.c
  ((t.setReg .a r.1).setFlags r.2).charge 4

/-- The CB-prefixed register form (44 R239). -/
def rotReg (o : RotOp) (r : Reg8) (s : State) : State :=
  let t := s.advance 2
  let x := rotResult o (t.reg r) t.cpu.f.c
  ((t.setReg r x.1).setFlags x.2).charge 8

/-- The CB-prefixed (HL) form: one read, one write (44 R239). -/
def rotMem (o : RotOp) (s : State) : State :=
  let t := s.advance 2
  let x := rotResult o (t.read8 t.hl) t.cpu.f.c
  ((t.write8 t.hl x.1).setFlags x.2).charge 16

/-! ### The meanings -/

/-- RLCA (07; R240). -/
def execRlca (s : State) : Result := .next (rotAcc .rlc s)

/-- RRCA (0F; R241). -/
def execRrca (s : State) : Result := .next (rotAcc .rrc s)

/-- RLA (17; R242). -/
def execRla (s : State) : Result := .next (rotAcc .rl s)

/-- RRA (1F; R243). -/
def execRra (s : State) : Result := .next (rotAcc .rr s)

/-- RLC B (CB 00; R244). -/
def execRlcB (s : State) : Result := .next (rotReg .rlc .b s)

/-- RLC C (CB 01; R244). -/
def execRlcC (s : State) : Result := .next (rotReg .rlc .c s)

/-- RLC D (CB 02; R244). -/
def execRlcD (s : State) : Result := .next (rotReg .rlc .d s)

/-- RLC E (CB 03; R244). -/
def execRlcE (s : State) : Result := .next (rotReg .rlc .e s)

/-- RLC H (CB 04; R244). -/
def execRlcH (s : State) : Result := .next (rotReg .rlc .h s)

/-- RLC L (CB 05; R244). -/
def execRlcL (s : State) : Result := .next (rotReg .rlc .l s)

/-- RLC (HL) (CB 06; R245). -/
def execRlcAtHL (s : State) : Result := .next (rotMem .rlc s)

/-- RLC A (CB 07; R244). -/
def execRlcA (s : State) : Result := .next (rotReg .rlc .a s)

/-- RRC B (CB 08; R246). -/
def execRrcB (s : State) : Result := .next (rotReg .rrc .b s)

/-- RRC C (CB 09; R246). -/
def execRrcC (s : State) : Result := .next (rotReg .rrc .c s)

/-- RRC D (CB 0A; R246). -/
def execRrcD (s : State) : Result := .next (rotReg .rrc .d s)

/-- RRC E (CB 0B; R246). -/
def execRrcE (s : State) : Result := .next (rotReg .rrc .e s)

/-- RRC H (CB 0C; R246). -/
def execRrcH (s : State) : Result := .next (rotReg .rrc .h s)

/-- RRC L (CB 0D; R246). -/
def execRrcL (s : State) : Result := .next (rotReg .rrc .l s)

/-- RRC (HL) (CB 0E; R247). -/
def execRrcAtHL (s : State) : Result := .next (rotMem .rrc s)

/-- RRC A (CB 0F; R246). -/
def execRrcA (s : State) : Result := .next (rotReg .rrc .a s)

/-- RL B (CB 10; R248). -/
def execRlB (s : State) : Result := .next (rotReg .rl .b s)

/-- RL C (CB 11; R248). -/
def execRlC (s : State) : Result := .next (rotReg .rl .c s)

/-- RL D (CB 12; R248). -/
def execRlD (s : State) : Result := .next (rotReg .rl .d s)

/-- RL E (CB 13; R248). -/
def execRlE (s : State) : Result := .next (rotReg .rl .e s)

/-- RL H (CB 14; R248). -/
def execRlH (s : State) : Result := .next (rotReg .rl .h s)

/-- RL L (CB 15; R248). -/
def execRlL (s : State) : Result := .next (rotReg .rl .l s)

/-- RL (HL) (CB 16; R249). -/
def execRlAtHL (s : State) : Result := .next (rotMem .rl s)

/-- RL A (CB 17; R248). -/
def execRlA (s : State) : Result := .next (rotReg .rl .a s)

/-- RR B (CB 18; R250). -/
def execRrB (s : State) : Result := .next (rotReg .rr .b s)

/-- RR C (CB 19; R250). -/
def execRrC (s : State) : Result := .next (rotReg .rr .c s)

/-- RR D (CB 1A; R250). -/
def execRrD (s : State) : Result := .next (rotReg .rr .d s)

/-- RR E (CB 1B; R250). -/
def execRrE (s : State) : Result := .next (rotReg .rr .e s)

/-- RR H (CB 1C; R250). -/
def execRrH (s : State) : Result := .next (rotReg .rr .h s)

/-- RR L (CB 1D; R250). -/
def execRrL (s : State) : Result := .next (rotReg .rr .l s)

/-- RR (HL) (CB 1E; R251). -/
def execRrAtHL (s : State) : Result := .next (rotMem .rr s)

/-- RR A (CB 1F; R250). -/
def execRrA (s : State) : Result := .next (rotReg .rr .a s)

/-- SLA B (CB 20; R252). -/
def execSlaB (s : State) : Result := .next (rotReg .sla .b s)

/-- SLA C (CB 21; R252). -/
def execSlaC (s : State) : Result := .next (rotReg .sla .c s)

/-- SLA D (CB 22; R252). -/
def execSlaD (s : State) : Result := .next (rotReg .sla .d s)

/-- SLA E (CB 23; R252). -/
def execSlaE (s : State) : Result := .next (rotReg .sla .e s)

/-- SLA H (CB 24; R252). -/
def execSlaH (s : State) : Result := .next (rotReg .sla .h s)

/-- SLA L (CB 25; R252). -/
def execSlaL (s : State) : Result := .next (rotReg .sla .l s)

/-- SLA (HL) (CB 26; R253). -/
def execSlaAtHL (s : State) : Result := .next (rotMem .sla s)

/-- SLA A (CB 27; R252). -/
def execSlaA (s : State) : Result := .next (rotReg .sla .a s)

/-- SRA B (CB 28; R254). -/
def execSraB (s : State) : Result := .next (rotReg .sra .b s)

/-- SRA C (CB 29; R254). -/
def execSraC (s : State) : Result := .next (rotReg .sra .c s)

/-- SRA D (CB 2A; R254). -/
def execSraD (s : State) : Result := .next (rotReg .sra .d s)

/-- SRA E (CB 2B; R254). -/
def execSraE (s : State) : Result := .next (rotReg .sra .e s)

/-- SRA H (CB 2C; R254). -/
def execSraH (s : State) : Result := .next (rotReg .sra .h s)

/-- SRA L (CB 2D; R254). -/
def execSraL (s : State) : Result := .next (rotReg .sra .l s)

/-- SRA (HL) (CB 2E; R255). -/
def execSraAtHL (s : State) : Result := .next (rotMem .sra s)

/-- SRA A (CB 2F; R254). -/
def execSraA (s : State) : Result := .next (rotReg .sra .a s)

/-- SWAP B (CB 30; R256). -/
def execSwapB (s : State) : Result := .next (rotReg .swap .b s)

/-- SWAP C (CB 31; R256). -/
def execSwapC (s : State) : Result := .next (rotReg .swap .c s)

/-- SWAP D (CB 32; R256). -/
def execSwapD (s : State) : Result := .next (rotReg .swap .d s)

/-- SWAP E (CB 33; R256). -/
def execSwapE (s : State) : Result := .next (rotReg .swap .e s)

/-- SWAP H (CB 34; R256). -/
def execSwapH (s : State) : Result := .next (rotReg .swap .h s)

/-- SWAP L (CB 35; R256). -/
def execSwapL (s : State) : Result := .next (rotReg .swap .l s)

/-- SWAP (HL) (CB 36; R257). -/
def execSwapAtHL (s : State) : Result := .next (rotMem .swap s)

/-- SWAP A (CB 37; R256). -/
def execSwapA (s : State) : Result := .next (rotReg .swap .a s)

/-- SRL B (CB 38; R258). -/
def execSrlB (s : State) : Result := .next (rotReg .srl .b s)

/-- SRL C (CB 39; R258). -/
def execSrlC (s : State) : Result := .next (rotReg .srl .c s)

/-- SRL D (CB 3A; R258). -/
def execSrlD (s : State) : Result := .next (rotReg .srl .d s)

/-- SRL E (CB 3B; R258). -/
def execSrlE (s : State) : Result := .next (rotReg .srl .e s)

/-- SRL H (CB 3C; R258). -/
def execSrlH (s : State) : Result := .next (rotReg .srl .h s)

/-- SRL L (CB 3D; R258). -/
def execSrlL (s : State) : Result := .next (rotReg .srl .l s)

/-- SRL (HL) (CB 3E; R259). -/
def execSrlAtHL (s : State) : Result := .next (rotMem .srl s)

/-- SRL A (CB 3F; R258). -/
def execSrlA (s : State) : Result := .next (rotReg .srl .a s)

end Sys2Proof.Machine
end

