-- ==== Sys2Proof/Machine/System.lean ====
section
/-! DEFINITION. `CpuStep` and `SystemStep` (60 R310, R311). -/

namespace Sys2Proof.Machine

/-- The fetch, decode and execute branch of `CpuStep`: the instruction at PC runs, then EI's commit if EI
was pending when the step began (60 R311; 47 R295). -/
def executeNext (s : State) : Result :=
  match exec s.fetch s with
  | .next t => .next (t.commitEi s.cpu.eiPending)
  | .fault r => .fault r
  | .refused r => .refused r

/-- The Running branch of `CpuStep`: an interrupt that is pending is dispatched instead of fetching an
instruction (60 R315). -/
def runCpu (s : State) : Result :=
  match s.pending with
  | some k => .next (s.dispatch k)
  | none => executeNext s

/-- `CpuStep()`; the value it returns is the cost it leaves in the state (60 R311). -/
def cpuStep (s : State) : Result :=
  match s.cpu.run with
  | .faulted _ _ => .next (s.setCost 0)
  | .stopped => .next (s.setCost 0)
  | .halted => if s.requested = 0 then .next (s.setCost 4) else runCpu (s.setRun .running)
  | .running => runCpu s

/-- `SystemStep()`: the CPU's step, then the timer and the PPU for each T-cycle of its cost (60 R310). -/
def systemStep (s : State) : Result :=
  match cpuStep s with
  | .next t => .next (t.tCycles t.cost)
  | .fault r => .fault r
  | .refused r => .refused r

/-- Store a byte in the backing store of an address, past the bus: what a loader does, not the CPU. ROM is
written at its banked offset; an address with no backing store is left (log entry 3). -/
def State.place (s : State) (a : Word) (v : Byte) : State :=
  let off := (s.translate a).1
  match regionOf a with
  | .romLo | .romHi => s.setCart { s.cart with rom := Store.set s.cart.rom off v }
  | .extRam => if s.cart.ramSize = .none then s else s.setCart { s.cart with ram := Store.set s.cart.ram off v }
  | .vram | .wram | .mirror | .oam | .hram => s.writeRaw a v
  | .io =>
    match ioRegAt off with
    | .sound i => s.writeIo (.sound i) v
    | _ => s
  | .unusable | .ie => s

/-- The CPU made ready to fetch: Running, no halt bug, and IME as it is unless an interrupt would be
dispatched before the fetch. From reset it changes nothing (log entry 3). -/
def State.readyToFetch (s : State) : State :=
  s.setCpu { s.cpu with run := .running, haltBug := false, ime := s.cpu.ime && decide (s.requested = 0) }

end Sys2Proof.Machine
end

