-- ==== Sys2Proof/Machine/Step.lean ====
section
/-! DEFINITION. One step of the machine, and where the next instruction is fetched from. -/

namespace Sys2Proof.Machine

/-- One `SystemStep()` (60 R310). -/
def step (s : State) : Host.Outcome State Fault Refusal := systemStep s

/-- `s` with the instruction of the word `w` stored at PC, its later bytes 0, so that the next step runs
it (log entry 3). -/
def State.withFetchWord (s : State) (nbits w : Nat) : State :=
  let t := s.readyToFetch
  let place (u : State) (i : Nat) : State :=
    u.place (s.cpu.pc + BitVec.ofNat 16 i) ((tableBytes nbits w).getD i 0)
  place (place (place t 0) 1) 2

end Sys2Proof.Machine
end

