-- ==== Sys2Proof/Machine/HostActions.lean ====
section
/-! DEFINITION. What the host may do, all of it between two steps (70 R455): launch, push a joypad sample,
read a frame, read and write external RAM, read the fault. -/

namespace Sys2Proof.Machine

/-- `P_MBC` from the cartridge header byte at 0x0147 (20 R90); none for a controller out of scope. -/
def mbcOfHeader (v : Byte) : Option Mbc :=
  if v = 0x00 ∨ v = 0x08 ∨ v = 0x09 then some .noMbc
  else if v = 0x01 ∨ v = 0x02 ∨ v = 0x03 then some .mbc1
  else none

/-- `P_RAM_SIZE` from the cartridge header byte at 0x0149 (20 R90); none for a size out of scope. -/
def ramSizeOfHeader (v : Byte) : Option RamSize :=
  if v = 0x00 then some .none
  else if v = 0x01 then some .kib2
  else if v = 0x02 then some .kib8
  else if v = 0x03 then some .kib32
  else none

/-- The launch (70 R433): the reset state for an admitted cartridge (70 R430), or a refusal (20 R90). -/
def launch (image : List Byte) (mbc : Mbc) (ramSize : RamSize) (p : Params) (d : Draws) : Result :=
  if cartAdmitted mbc image.length then
    .next (State.power mbc (image.length / 0x4000) ramSize (Store.ofList 0 image) p d)
  else .refused .cartridgeNotAdmitted

/-- The loader: the variant and the RAM size from the header, then the launch (20 R90). -/
def launchImage (image : List Byte) (p : Params) (d : Draws) : Result :=
  match mbcOfHeader (image.getD 0x0147 0), ramSizeOfHeader (image.getD 0x0149 0) with
  | some mbc, some ramSize => launch image mbc ramSize p d
  | _, _ => .refused .cartridgeNotAdmitted

/-- Push a joypad sample (20 R100), with the request and wake-up it may cause (20 R101). -/
def State.pushJoypad (s : State) (sample : Byte) : State := s.changePad { s.pad with buttons := sample }

/-- `FrameRead()`: the published frame; no state changes (65 R396). -/
def State.frameRead (s : State) : Frame := s.ppu.front

/-- The shade of a pixel of a frame (10 R54). -/
def Frame.pixel (f : Frame) (line column : Nat) : BitVec 2 := Store.get f (frameKey line column)

/-- External RAM read wholesale (20 R97). -/
def State.readExtRam (s : State) : List Byte :=
  (List.range s.cart.ramSize.bytes).map fun i => Store.get s.cart.ram i

/-- External RAM written wholesale: its P_RAM_SIZE bytes (20 R97; log entry 24). -/
def State.writeExtRam (s : State) (bytes : List Byte) : State :=
  s.setCart { s.cart with ram := Store.ofList 0 (bytes.take s.cart.ramSize.bytes) }

/-- The fault the host reads from `run` (47 R296). -/
def State.readFault (s : State) : Option Fault :=
  match s.cpu.run with
  | .faulted addr byte => some (.illegalOpcode addr byte)
  | _ => none

/-- The host's actions that move the machine (70 R455). -/
inductive HostAction where
  | systemStep
  | joypad (sample : Byte)
  | writeRam (bytes : List Byte)
  deriving DecidableEq, Repr

/-- One host action (70 R455). -/
def hostAct (x : HostAction) (s : State) : Result :=
  match x with
  | .systemStep => step s
  | .joypad sample => .next (s.pushJoypad sample)
  | .writeRam bytes => .next (s.writeExtRam bytes)

end Sys2Proof.Machine
end

