-- ==== Sys2Proof/Safety.lean ====
section
/-! DEFINITION. The terms the statements use: a faulted state, the end of a run, the machine's invariant, what
a write may touch, and what an instruction leaves unchanged. -/

namespace Sys2Proof.Machine

/-! ### Safe runs -/

/-- The CPU is in the Faulted run state (10 R28). -/
def State.faulted (s : State) : Bool := s.readFault.isSome

/-- A successful end of a run: the predicate P_END_OF_RUN, supplied with the program, holds and the state is
not Faulted (70 R456). -/
def Observed (endOfRun : State → Bool) (s : State) : Prop := endOfRun s = true ∧ s.faulted = false

/-! ### The invariant -/

/-- A Faulted CPU stands at the illegal byte it reports (47 R296); the halt bug is pending only while the CPU
is Running (47 R291; 60 R311). -/
def Cpu.inv (k : Cpu) : Bool :=
  (match k.run with
    | .faulted addr byte => decide (k.pc = addr) && (decodeWindow byte 0 0).illegalByte.isSome
    | _ => true) &&
  (!k.haltBug || decide (k.run = .running))

/-- `reload_wait` is at most P_TIMA_RELOAD_DELAY (10 R52). -/
def Timer.inv (p : Params) (t : Timer) : Bool := decide (t.reloadWait ≤ p.timaReloadDelay)

/-- The most the window's line counter can be: the number of visible lines done before this dot (65 R377, R385).
So it keeps to the range 0..143 of 10 R53 at every dot of a visible line up to the end of its Drawing, the dots
that read it, and can be 144 only from line 143's HBlank until it is cleared (log entry 13). -/
def Ppu.winBound (p : Ppu) : Nat :=
  if p.lcdOn && decide (p.ly < 144) then (if p.mode = .hblank then p.ly + 1 else p.ly) else 144

/-- The PPU's counters are in range (10 R53; `win_line` as `winBound` says, log entry 13), its mode is the function of them 65 R372 gives (or, with the
LCD off, line 0, dot 0, mode 0, 65 R398), its STAT line is up to date (65 R378), its object list is at most ten
OAM indices (65 R379) and its frames are canonical. -/
def Ppu.inv (p : Ppu) : Bool :=
  decide (p.ly < 154) && decide (p.dot < 456) && decide (172 ≤ p.drawLen) && decide (p.drawLen ≤ 289) &&
  (if p.lcdOn then decide (p.mode = modeAt p.ly p.dot p.drawLen)
    else decide (p.ly = 0) && decide (p.dot = 0) && decide (p.mode = .hblank)) &&
  (p.statLine == p.statLevel) && decide (p.winLine ≤ p.winBound) &&
  decide (p.objs.length ≤ 10) && p.objs.all (fun i => decide (i < 40)) &&
  Store.wf 23040 p.back && Store.wf 23040 p.front

/-- The cartridge is one the launch admits (20 R90), its memories are canonical, and `bank1` is not 0
(20 R92). -/
def Cart.inv (c : Cart) : Bool :=
  cartAdmitted c.mbc (c.romBanks * 0x4000) && Memory.wf (c.romBanks * 0x4000) c.rom &&
  Memory.wf c.ramSize.bytes c.ram && decide (c.bank1 ≠ 0)

/-- The console's memories are canonical and of their sizes (10 R31, R50). -/
def Mem.inv (m : Mem) : Bool :=
  Memory.wf 0x2000 m.vram && Memory.wf 0x2000 m.wram && Memory.wf 160 m.oam && Memory.wf 127 m.hram &&
  Memory.wf 48 m.sound

/-- The machine's invariant. -/
def State.inv (s : State) : Bool :=
  s.cpu.inv && s.timer.inv s.params && s.ppu.inv && s.cart.inv && s.mem.inv

/-- Draws that are memories of the sizes 70 R430 gives them. -/
def Draws.wf (d : Draws) (ramSize : RamSize) : Bool :=
  Memory.wf 0x2000 d.vram && Memory.wf 0x2000 d.wram && Memory.wf 160 d.oam && Memory.wf 127 d.hram &&
  Store.wfFrom 32 48 d.wave && Memory.wf ramSize.bytes d.extRam

/-! ### What a write may touch (20 R79) -/

/-- Whether a write to address `a` may change what a read of address `b` gives, by the rules of the written
region or register: itself, its aliases, and the side effects 20 R79 lists. -/
def touches (s : State) (a b : Word) : Bool :=
  let rb := regionOf b
  match regionOf a with
  | .romLo | .romHi =>
    decide (s.cart.mbc = .mbc1) &&
      (if a.toNat < 0x2000 then decide (rb = .extRam)
       else if a.toNat < 0x4000 then decide (rb = .romHi)
       else if a.toNat < 0x6000 then decide (rb = .romLo) || decide (rb = .romHi) || decide (rb = .extRam)
       else decide (rb = .romLo) || decide (rb = .extRam))
  | .vram | .oam | .hram | .ie => decide (b = a)
  | .extRam => decide (rb = .extRam) && decide ((s.translate b).1 = (s.translate a).1)
  | .wram | .mirror =>
    (decide (rb = .wram) || decide (rb = .mirror)) && decide ((s.translate b).1 = (s.translate a).1)
  | .unusable => false
  | .io =>
    match ioRegAt (offsetFrom 0xFF00 a) with
    | .p1 => decide (b = a) || decide (b = 0xFF0F)
    | .div => decide (b = a) || decide (b = 0xFF05)
    | .tac => decide (b = a) || decide (b = 0xFF05)
    | .lcdc =>
      decide (b = a) || decide (b = 0xFF41) || decide (b = 0xFF44) || decide (b = 0xFF0F) ||
        decide (rb = .vram) || decide (rb = .oam) || decide (rb = .unusable)
    | .stat => decide (b = a) || decide (b = 0xFF0F)
    | .lyc => decide (b = a) || decide (b = 0xFF41) || decide (b = 0xFF0F)
    | .dma => decide (b = a) || decide (rb = .oam)
    | .ly | .unmapped => false
    | _ => decide (b = a)

/-! ### Frames: what an instruction leaves unchanged -/

/-- The address after an instruction of `len` bytes at PC (10 R25); one less under the halt bug (60 R311). -/
def State.nextPc (s : State) (len : Nat) : Word :=
  s.cpu.pc + BitVec.ofNat 16 len - (if s.cpu.haltBug then 1 else 0)

/-- Every 8-bit register outside `w` keeps its value. -/
def RegsKept (w : List Reg8) (s t : State) : Prop := ∀ r, r ∉ w → t.reg r = s.reg r

/-- IME, `ei_pending` and `run` are kept (30 R140); the fetch has cleared `halt_bug` (10 R29). -/
def ControlKept (s t : State) : Prop :=
  t.cpu.ime = s.cpu.ime ∧ t.cpu.eiPending = s.cpu.eiPending ∧ t.cpu.run = s.cpu.run ∧
    t.cpu.haltBug = false

/-- Everything outside the CPU and the cost is kept: the timer, the PPU, the cartridge, the joypad, the serial
and interrupt registers, the memories, the parameters. -/
def UnitsKept (s t : State) : Prop :=
  t.timer = s.timer ∧ t.ppu = s.ppu ∧ t.cart = s.cart ∧ t.pad = s.pad ∧ t.serial = s.serial ∧
    t.irq = s.irq ∧ t.mem = s.mem ∧ t.params = s.params

/-- Every byte of the address space reads as before. -/
def MemoryKept (s t : State) : Prop := ∀ b, t.read8 b = s.read8 b

/-- The frame of an instruction that writes registers only: the 8-bit registers outside `w`, the control
latches, every unit and every byte of memory are kept. -/
def QuietFrame (w : List Reg8) (s t : State) : Prop :=
  RegsKept w s t ∧ ControlKept s t ∧ UnitsKept s t ∧ MemoryKept s t

/-- What a write to `a` adds to the cost (20 R80). -/
def dmaCharge (s : State) (a : Word) : Nat := if a = 0xFF46 then s.params.dmaCycles else 0

/-- The frame of an instruction that stores the byte `v` at `a` and no other: the units are those the bus write
leaves, every byte the write does not touch reads as before, the registers outside `w` and the interrupt
latches are kept, and `run` too unless the write is the P1 write that wakes a Stopped CPU (20 R101). -/
def StoreFrame (w : List Reg8) (a : Word) (v : Byte) (s t : State) : Prop :=
  RegsKept w s t ∧ t.cpu.ime = s.cpu.ime ∧ t.cpu.eiPending = s.cpu.eiPending ∧ t.cpu.haltBug = false ∧
    t.cpu.run = (s.write8 a v).cpu.run ∧ (s.cpu.run ≠ .stopped → t.cpu.run = s.cpu.run) ∧
    UnitsKept (s.write8 a v) t ∧ (∀ b, touches s a b = false → t.read8 b = s.read8 b)

/-- As `StoreFrame`, for two bytes stored one after the other: `v1` at `a1`, then `v2` at `a2`. -/
def StoreFrame2 (w : List Reg8) (a1 : Word) (v1 : Byte) (a2 : Word) (v2 : Byte) (s t : State) : Prop :=
  RegsKept w s t ∧ t.cpu.ime = s.cpu.ime ∧ t.cpu.eiPending = s.cpu.eiPending ∧ t.cpu.haltBug = false ∧
    t.cpu.run = ((s.write8 a1 v1).write8 a2 v2).cpu.run ∧
    (s.cpu.run ≠ .stopped → t.cpu.run = s.cpu.run) ∧
    UnitsKept ((s.write8 a1 v1).write8 a2 v2) t ∧
    (∀ b, touches s a1 b = false → touches (s.write8 a1 v1) a2 b = false → t.read8 b = s.read8 b)

/-! ### What an instruction does: the shapes the statements share -/

/-- `exec i` answers the next state `t`, with PC past the instruction's `len` bytes and the cost `n`
(30 R140; 60 R311). -/
def Completes (i : Instr) (s t : State) (len n : Nat) : Prop :=
  exec i s = .next t ∧ t.cpu.pc = s.nextPc len ∧ t.cost = n

/-- The instruction's bytes are `bytes`, and it writes `v` to the register `dst` and changes nothing else but
PC, for `n` T-cycles. -/
def LoadsByte (i : Instr) (bytes : List Byte) (n : Nat) (dst : Reg8) (v : State → Byte) : Prop :=
  encode i = bytes ∧
    ∀ s, ∃ t, Completes i s t bytes.length n ∧ t.reg dst = v s ∧ t.cpu.f = s.cpu.f ∧ t.cpu.sp = s.cpu.sp ∧
      QuietFrame [dst] s t

/-- The instruction's bytes are `bytes`, and it stores the byte `v` at the address `a` and changes nothing else
but PC, for `n` T-cycles and those of a DMA the store starts. -/
def StoresByte (i : Instr) (bytes : List Byte) (n : Nat) (a : State → Word) (v : State → Byte) : Prop :=
  encode i = bytes ∧
    ∀ s, ∃ t, Completes i s t bytes.length (n + dmaCharge s (a s)) ∧ t.cpu.f = s.cpu.f ∧
      t.cpu.sp = s.cpu.sp ∧ StoreFrame [] (a s) (v s) s t

/-- The instruction's bytes are `bytes`, and it writes `v` to A and the flags `f`, changing nothing else but
PC, for `n` T-cycles: `R a0 f0 a1 f1` relates A and the flags before and after, in the state before. -/
def AdjustsAcc (i : Instr) (bytes : List Byte) (n : Nat) (R : State → Byte → Flags → Prop) : Prop :=
  encode i = bytes ∧
    ∀ s, ∃ t, Completes i s t bytes.length n ∧ R s (t.reg .a) t.cpu.f ∧ t.cpu.sp = s.cpu.sp ∧
      QuietFrame [.a] s t

/-- `Add8(a, b, k)` (42 R197), as a relation to the result and the flags. -/
def SumEffect (a b : Byte) (k : Bool) (r : Byte) (f : Flags) : Prop :=
  r.toNat = (a.toNat + b.toNat + k.toNat) % 256 ∧ (f.z = true ↔ r = 0) ∧ f.n = false ∧
    (f.h = true ↔ a.toNat % 16 + b.toNat % 16 + k.toNat > 0x0F) ∧
    (f.c = true ↔ a.toNat + b.toNat + k.toNat > 0xFF)

/-- `Sub8(a, b, k)` (42 R198), as a relation to the result and the flags. -/
def DiffEffect (a b : Byte) (k : Bool) (r : Byte) (f : Flags) : Prop :=
  (r.toNat : Int) = ((a.toNat : Int) - b.toNat - k.toNat) % 256 ∧ (f.z = true ↔ r = 0) ∧ f.n = true ∧
    (f.h = true ↔ a.toNat % 16 < b.toNat % 16 + k.toNat) ∧ (f.c = true ↔ a.toNat < b.toNat + k.toNat)

/-- A logic result (42 R199). -/
def LogicEffect (v : Byte) (h : Bool) (r : Byte) (f : Flags) : Prop :=
  r = v ∧ (f.z = true ↔ v = 0) ∧ f.n = false ∧ f.h = h ∧ f.c = false

/-- The ALU group (42 R196-R223): A, the operand and the old carry, to the new A and flags. -/
def AluEffect (op : AluOp) (a v : Byte) (cy : Bool) (r : Byte) (f : Flags) : Prop :=
  match op with
  | .add => SumEffect a v false r f
  | .adc => SumEffect a v cy r f
  | .sub => DiffEffect a v false r f
  | .sbc => DiffEffect a v cy r f
  | .and => LogicEffect (a &&& v) true r f
  | .xor => LogicEffect (a ^^^ v) false r f
  | .or => LogicEffect (a ||| v) false r f
  | .cp => r = a ∧ ∃ d, DiffEffect a v false d f

/-- INC's result and flags (42 R224). -/
def IncEffect (old : Byte) (f0 : Flags) (r : Byte) (f : Flags) : Prop :=
  r.toNat = (old.toNat + 1) % 256 ∧ (f.z = true ↔ r = 0) ∧ f.n = false ∧
    (f.h = true ↔ old.toNat % 16 = 15) ∧ f.c = f0.c

/-- DEC's result and flags (42 R226). -/
def DecEffect (old : Byte) (f0 : Flags) (r : Byte) (f : Flags) : Prop :=
  r.toNat = (old.toNat + 255) % 256 ∧ (f.z = true ↔ r = 0) ∧ f.n = true ∧
    (f.h = true ↔ old.toNat % 16 = 0) ∧ f.c = f0.c

/-- DAA's A and flags (42 R228), on numbers. -/
def DaaEffect (a : Byte) (f0 : Flags) (r : Byte) (f : Flags) : Prop :=
  (f.z = true ↔ r = 0) ∧ f.n = f0.n ∧ f.h = false ∧
    (if f0.n = false then
      (f.c = true ↔ f0.c = true ∨ a.toNat > 0x99) ∧
        ∃ m, m = (if f0.c = true ∨ a.toNat > 0x99 then (a.toNat + 0x60) % 256 else a.toNat) ∧
          r.toNat = if f0.h = true ∨ m % 16 > 9 then (m + 0x06) % 256 else m
    else
      f.c = f0.c ∧
        ∃ m, m = (if f0.c = true then (a.toNat + (256 - 0x60)) % 256 else a.toNat) ∧
          r.toNat = if f0.h = true then (m + (256 - 0x06)) % 256 else m)

/-- The rotates and shifts (44 R239), bit by bit: the result `r` and the carry out `co`. -/
def RotEffect (op : RotOp) (v : Byte) (cy : Bool) (r : Byte) (co : Bool) : Prop :=
  (∀ i, i < 8 →
    bitOf r i =
      match op with
      | .rlc => bitOf v ((i + 7) % 8)
      | .rrc => bitOf v ((i + 1) % 8)
      | .rl => if i = 0 then cy else bitOf v (i - 1)
      | .rr => if i = 7 then cy else bitOf v (i + 1)
      | .sla => if i = 0 then false else bitOf v (i - 1)
      | .sra => if i = 7 then bitOf v 7 else bitOf v (i + 1)
      | .swap => bitOf v ((i + 4) % 8)
      | .srl => if i = 7 then false else bitOf v (i + 1)) ∧
    co =
      match op with
      | .rlc | .rl | .sla => bitOf v 7
      | .swap => false
      | .rrc | .rr | .sra | .srl => bitOf v 0

/-- The flags of a rotate or shift: Z as given, N and Hf 0, Cy the carry out (44 R239). -/
def RotFlags (z : Prop) (co : Bool) (f : Flags) : Prop :=
  (f.z = true ↔ z) ∧ f.n = false ∧ f.h = false ∧ f.c = co

/-- `AddSPe(e)` (41 R184): the sum and the flags. -/
def AddSpEffect (sp : Word) (e : Byte) (r : Word) (f : Flags) : Prop :=
  (r.toNat : Int) = ((sp.toNat : Int) + e.toInt) % 65536 ∧ f.z = false ∧ f.n = false ∧
    (f.h = true ↔ sp.toNat % 16 + e.toNat % 16 > 0x0F) ∧ (f.c = true ↔ sp.toNat % 256 + e.toNat > 0xFF)

/-- `i` reads the byte `old` at HL, stores `new` there and sets the flags, related by `R`, for `n` T-cycles and
those of a DMA the store starts; nothing else but PC changes. -/
def UpdatesMemory (i : Instr) (bytes : List Byte) (n : Nat) (R : Byte → Flags → Byte → Flags → Prop) : Prop :=
  encode i = bytes ∧
    ∀ s, ∃ t v, Completes i s t bytes.length (n + dmaCharge s s.hl) ∧
      R (s.read8 s.hl) s.cpu.f v t.cpu.f ∧ t.cpu.sp = s.cpu.sp ∧ StoreFrame [] s.hl v s t

/-- `i` changes the register `r` and the flags, related by `R`, and nothing else but PC, for `n` T-cycles. -/
def UpdatesReg (i : Instr) (bytes : List Byte) (n : Nat) (r : Reg8) (R : Byte → Flags → Byte → Flags → Prop) :
    Prop :=
  encode i = bytes ∧
    ∀ s, ∃ t, Completes i s t bytes.length n ∧ R (s.reg r) s.cpu.f (t.reg r) t.cpu.f ∧
      t.cpu.sp = s.cpu.sp ∧ QuietFrame [r] s t

/-- The 8-bit registers a pair is made of; SP is made of none (10 R20). -/
def pairHalves : Pair → List Reg8
  | .bc => [.b, .c]
  | .de => [.d, .e]
  | .hl => [.h, .l]
  | .sp => []

/-- The 8-bit registers, F left out, of a pair of PUSH and POP (10 R20). -/
def stackPairHalves : StackPair → List Reg8
  | .bc => [.b, .c]
  | .de => [.d, .e]
  | .hl => [.h, .l]
  | .af => [.a]

/-- `i` leaves PC at `target` for `nTaken` T-cycles where `taken` holds, and past its bytes for `nNot`
elsewhere; nothing else changes. -/
def Jumps (i : Instr) (bytes : List Byte) (taken : State → Bool) (target : State → Word) (nTaken nNot : Nat) :
    Prop :=
  encode i = bytes ∧
    ∀ s, ∃ t, exec i s = .next t ∧
      t.cpu.pc = (if taken s then target s else s.nextPc bytes.length) ∧
      t.cost = (if taken s then nTaken else nNot) ∧ t.cpu.f = s.cpu.f ∧ t.cpu.sp = s.cpu.sp ∧ QuietFrame [] s t

/-- `t` is `s` after pushing the word `v` (41 R186): its high byte at SP - 1, its low byte at SP - 2. -/
def Pushed (v : Word) (s t : State) : Prop :=
  t.cpu.sp = s.cpu.sp - 2 ∧ StoreFrame2 [] (s.cpu.sp - 1) (hiByte v) (s.cpu.sp - 2) (loByte v) s t

/-- What the two stores of a push add to the cost (20 R80). -/
def pushCharge (s : State) : Nat := dmaCharge s (s.cpu.sp - 1) + dmaCharge s (s.cpu.sp - 2)

/-- The word at SP (41 R186). -/
def State.stackTop (s : State) : Word := pair (s.read8 (s.cpu.sp + 1)) (s.read8 s.cpu.sp)

/-- `i` pushes the address after it and leaves PC at `target`, for `nTaken` T-cycles and those of a DMA a push
starts, where `taken` holds; elsewhere only PC moves past it, for `nNot`. -/
def Calls (i : Instr) (bytes : List Byte) (taken : State → Bool) (target : Word) (nTaken nNot : Nat) : Prop :=
  encode i = bytes ∧
    ∀ s, ∃ t, exec i s = .next t ∧ t.cpu.f = s.cpu.f ∧
      if taken s then
        t.cpu.pc = target ∧ t.cost = nTaken + pushCharge s ∧ Pushed (s.nextPc bytes.length) s t
      else
        t.cpu.pc = s.nextPc bytes.length ∧ t.cost = nNot ∧ t.cpu.sp = s.cpu.sp ∧ QuietFrame [] s t

/-- `i` pops PC for `nTaken` T-cycles where `taken` holds; elsewhere only PC moves past it, for `nNot`. -/
def Returns (i : Instr) (bytes : List Byte) (taken : State → Bool) (nTaken nNot : Nat) : Prop :=
  encode i = bytes ∧
    ∀ s, ∃ t, exec i s = .next t ∧ t.cpu.f = s.cpu.f ∧ QuietFrame [] s t ∧
      if taken s then t.cpu.pc = s.stackTop ∧ t.cost = nTaken ∧ t.cpu.sp = s.cpu.sp + 2
      else t.cpu.pc = s.nextPc bytes.length ∧ t.cost = nNot ∧ t.cpu.sp = s.cpu.sp

/-- TIMA after one 1-to-0 edge of the timer signal, or after none (60 R343): the timer `t` becomes `u`, up to
the divider and TAC; `delay` is P_TIMA_RELOAD_DELAY. -/
def TimaClocked (delay : Nat) (edge : Bool) (t u : Timer) : Prop :=
  u.tma = t.tma ∧
    if edge = true then
      if t.tima = 0xFF then u.tima = 0 ∧ u.reloadWait = delay
      else u.tima = t.tima + 1 ∧ u.reloadWait = t.reloadWait
    else u.tima = t.tima ∧ u.reloadWait = t.reloadWait

end Sys2Proof.Machine
end

