-- ==== Sys2Proof/Certificates/Slice0/Obligations.lean ====
section
/-! DEFINITION. The statements for the provers. -/

open Sys2Proof Sys2Proof.Machine

/-! ### Encoding -/

/-- Every instruction's bytes decode to it, with every operand at every value, and what follows is left
(30 R121, R128-R130). -/
def Obligations.DecodeOfEncode : Prop :=
  ∀ (i : Instr) (rest : List Byte), decode (encode i ++ rest) = .ok (i, rest)

/-- Three bytes always decode; byte 0 alone gives the length, by the lists of 30 R136; the bytes taken are the
encoding of the instruction read, but for STOP's ignored byte (30 R135); the instruction is an illegal one
exactly for the eleven bytes of 30 R131, and no CB second byte is illegal (30 R132). -/
def Obligations.DecodeIsTotal : Prop :=
  ∀ (b0 b1 b2 : Byte) (rest : List Byte), ∃ i n,
    decode (b0 :: b1 :: b2 :: rest) = .ok (i, (b0 :: b1 :: b2 :: rest).drop n) ∧
    (n = 2 ↔ b0 ∈ [0xCB, 0x10, 0x06, 0x0E, 0x16, 0x18, 0x1E, 0x20, 0x26, 0x28, 0x2E, 0x30, 0x36, 0x38, 0x3E,
      0xC6, 0xCE, 0xD6, 0xDE, 0xE0, 0xE6, 0xE8, 0xEE, 0xF0, 0xF6, 0xF8, 0xFE]) ∧
    (n = 3 ↔ b0 ∈ [0x01, 0x08, 0x11, 0x21, 0x31, 0xC2, 0xC3, 0xC4, 0xCA, 0xCC, 0xCD, 0xD2, 0xD4, 0xDA, 0xDC,
      0xEA, 0xFA]) ∧
    (n = 1 ∨ n = 2 ∨ n = 3) ∧
    (i ≠ .stop → [b0, b1, b2].take n = encode i) ∧ (i = .stop → b0 = 0x10) ∧
    (i.illegalByte = if b0 ∈ [0xD3, 0xDB, 0xDD, 0xE3, 0xE4, 0xEB, 0xEC, 0xED, 0xF4, 0xFC, 0xFD] then some b0
      else none)

/-- Words of the spec's own examples decode to the instructions they stand for, one or more of each family;
the CB page's are the two-byte ones. -/
def Obligations.SpecWordsDecode : Prop :=
  decode [0x48] = .ok (.ldCB, []) ∧ decode [0x7E] = .ok (.ldAAtHL, []) ∧
  decode [0x3E, 0x3C] = .ok (.ldAN 0x3C, []) ∧ decode [0xFA, 0x23, 0xC1] = .ok (.ldAAtNn 0xC123, []) ∧
  decode [0xF0, 0x44] = .ok (.ldhAAtN 0x44, []) ∧ decode [0x31, 0xFE, 0xFF] = .ok (.ldSPNn 0xFFFE, []) ∧
  decode [0xF8, 0x02] = .ok (.ldHLSPE 0x02, []) ∧ decode [0x87] = .ok (.addAA, []) ∧
  decode [0xAF] = .ok (.xorA, []) ∧ decode [0x27] = .ok (.daa, []) ∧ decode [0x29] = .ok (.addHLHL, []) ∧
  decode [0x07] = .ok (.rlca, []) ∧ decode [0xCB, 0x06] = .ok (.rlcAtHL, []) ∧
  decode [0xCB, 0x7F] = .ok (.bit7A, []) ∧ decode [0xCB, 0xBF] = .ok (.res7A, []) ∧
  decode [0xCB, 0xFE] = .ok (.set7AtHL, []) ∧ decode [0xC3, 0x50, 0x01] = .ok (.jp 0x0150, []) ∧
  decode [0x38, 0xFC] = .ok (.jrC 0xFC, []) ∧ decode [0xEF] = .ok (.rst28, []) ∧
  decode [0xD9] = .ok (.reti, []) ∧ decode [0x76] = .ok (.halt, []) ∧
  decode [0x10, 0x00] = .ok (.stop, []) ∧ decode [0xDD] = .ok (.illegalDD, [])

/-! ### The step -/

/-- A running CPU with no interrupt pending runs the instruction that the bytes at PC decode to; the byte
after the opcode is the opcode byte again under the halt bug (60 R311). Around `exec` the step adds EI's
commit and then the timer's and the PPU's ticks, one for each T-cycle of the cost (60 R310). -/
def Obligations.StepRunsTheDecodedInstruction : Prop :=
  ∀ (s t : State) (i : Instr) (rest : List Byte),
    s.cpu.run = .running → s.pending = none →
    decode [s.read8 s.cpu.pc, s.read8 s.cpu.pcAfterOpcode, s.read8 (s.cpu.pcAfterOpcode + 1)] =
      .ok (i, rest) →
    exec i s = .next t →
      step s = .next ((t.commitEi s.cpu.eiPending).tCycles t.cost)

/-- No instruction and no step ends in a fault or a refusal: every access is total and the one failure,
IllegalOpcode, is a state of its own (00 R14; 20 R61, R62). -/
def Obligations.NoStepStops : Prop :=
  (∀ (i : Instr) (s : State), ∃ t, exec i s = .next t) ∧ ∀ s : State, ∃ t, step s = .next t

/-- EI's commit: after an instruction that does not fault, IME is 1 if it was, or if EI was pending both
before the instruction and after it, and then EI is pending no more (47 R295). -/
def Obligations.EiTakesEffectOneInstructionLate : Prop :=
  ∀ (s t : State), s.cpu.run = .running → s.pending = none → exec s.fetch s = .next t →
    (∀ a b, t.cpu.run ≠ .faulted a b) →
      ∃ u, step s = .next u ∧
        u.cpu = { t.cpu with
          ime := t.cpu.ime || (s.cpu.eiPending && t.cpu.eiPending)
          eiPending := t.cpu.eiPending && !s.cpu.eiPending }

/-- A pending source is the lowest requested one, and IME gates it (60 R313, R314). -/
def Obligations.PendingIsTheLowestRequestedSource : Prop :=
  ∀ (s : State),
    (∀ k, s.pending = some k ↔
      s.cpu.ime = true ∧ k < 5 ∧ s.irq.enable.getLsbD k = true ∧ s.irq.flags.getLsbD k = true ∧
        ∀ j < k, ¬(s.irq.enable.getLsbD j = true ∧ s.irq.flags.getLsbD j = true)) ∧
    (s.pending = none ↔
      s.cpu.ime = false ∨ ∀ j < 5, ¬(s.irq.enable.getLsbD j = true ∧ s.irq.flags.getLsbD j = true))

/-- A pending interrupt is taken instead of an instruction: its IF bit, IME, EI's latch and the halt bug are
cleared, PC (less 1 under the halt bug) is pushed, PC is the source's vector, and nothing else changes but by
the push's two bus writes and the ticks (60 R315, R316, R317, R326). That the cost is P_DISPATCH_CYCLES also where
the push writes 0xFF46 (SP at 0xFF47 or 0xFF48), so that the DMA it starts is not charged, is the model's
reading, log entry 10. -/
def Obligations.DispatchTakesThePendingInterrupt : Prop :=
  ∀ (s : State) (k : Nat), s.cpu.run = .running → s.pending = some k →
    ∃ q t ret, step s = .next (t.tCycles s.params.dispatchCycles) ∧
      ret = (if s.cpu.haltBug then s.cpu.pc - 1 else s.cpu.pc) ∧
      q = { s with irq := { s.irq with flags := q.irq.flags } } ∧
      (∀ j < 5, q.irq.flags.getLsbD j = (s.irq.flags.getLsbD j && !decide (j = k))) ∧
      t.cpu =
        { s.cpu with
          sp := s.cpu.sp - 2, pc := BitVec.ofNat 16 (0x40 + 8 * k), ime := false, eiPending := false,
          haltBug := false } ∧
      t.cost = s.params.dispatchCycles ∧
      UnitsKept ((q.write8 (s.cpu.sp - 1) (hiByte ret)).write8 (s.cpu.sp - 2) (loByte ret)) t ∧
      ∀ b, touches q (s.cpu.sp - 1) b = false →
        touches (q.write8 (s.cpu.sp - 1) (hiByte ret)) (s.cpu.sp - 2) b = false → t.read8 b = q.read8 b

/-- HALT, and what a Halted CPU does: with IME 0 and a source requested it sets the halt bug and does not
halt; while Halted a step costs 4 T-cycles until a source is requested, whatever IME is, and then the step
is that of the Running CPU (47 R291; 60 R318). -/
def Obligations.HaltAndWakeUp : Prop :=
  encode .halt = [0x76] ∧
  (∀ s : State, ∃ t, Completes .halt s t 1 4 ∧
    (if s.cpu.ime = false ∧ s.irq.enable.setWidth 5 &&& s.irq.flags ≠ 0 ∧ s.params.haltBug = true then
      t.cpu.haltBug = true ∧ t.cpu.run = s.cpu.run
    else t.cpu.haltBug = false ∧ t.cpu.run = .halted) ∧
    t.cpu.f = s.cpu.f ∧ t.cpu.sp = s.cpu.sp ∧ t.cpu.ime = s.cpu.ime ∧
    t.cpu.eiPending = s.cpu.eiPending ∧ RegsKept [] s t ∧ UnitsKept s t ∧ MemoryKept s t) ∧
  ∀ s : State, s.cpu.run = .halted →
    (s.irq.enable.setWidth 5 &&& s.irq.flags = 0 → step s = .next ((s.setCost 4).tCycles 4)) ∧
    (s.irq.enable.setWidth 5 &&& s.irq.flags ≠ 0 → step s = step (s.setRun .running))

/-- Every step's cost is a multiple of 4 when the two cost parameters are (60 R311). -/
def Obligations.CostIsAMultipleOfFour : Prop :=
  ∀ (s t : State), s.params.dmaCycles % 4 = 0 → s.params.dispatchCycles % 4 = 0 → step s = .next t →
    t.cost % 4 = 0

/-! ### Reset and launch -/

/-- The reset state's values, for every cartridge, parameters and draws (70 R430). -/
def Obligations.ResetState : Prop :=
  ∀ (mbc : Mbc) (romBanks : Nat) (ramSize : RamSize) (rom : Memory) (p : Params) (d : Draws),
    d.wf ramSize = true →
    let s := State.power mbc romBanks ramSize rom p d
    pair (s.reg .a) s.cpu.f.toByte = 0x01B0 ∧ s.pairOf .bc = 0x0013 ∧ s.pairOf .de = 0x00D8 ∧
    s.pairOf .hl = 0x014D ∧ s.cpu.sp = 0xFFFE ∧ s.cpu.pc = 0x0100 ∧ s.cpu.ime = false ∧
    s.cpu.eiPending = false ∧ s.cpu.haltBug = false ∧ s.cpu.run = .running ∧
    s.cart.rom = rom ∧ s.cart.ram = d.extRam ∧ s.mem.vram = d.vram ∧ s.mem.wram = d.wram ∧
    s.mem.oam = d.oam ∧ s.mem.hram = d.hram ∧
    (∀ i < 16, s.read8 (0xFF30 + BitVec.ofNat 16 i) = Store.get d.wave (32 + i)) ∧
    s.cart.ramEnable = false ∧ s.cart.bank1 = 1 ∧ s.cart.bank2 = 0 ∧ s.cart.mode = false ∧
    s.pad = { selAct := false, selDir := false, buttons := 0 } ∧ s.read8 0xFF00 = 0xCF ∧
    s.read8 0xFF01 = 0x00 ∧ s.serial.scStart = false ∧ s.serial.scClock = false ∧ s.read8 0xFF02 = 0x7E ∧
    s.timer.div = d.divInit ∧ s.read8 0xFF04 = hiByte d.divInit ∧ s.read8 0xFF05 = 0x00 ∧
    s.read8 0xFF06 = 0x00 ∧ s.timer.tac = 0 ∧
    s.read8 0xFF07 = 0xF8 ∧ s.timer.reloadWait = 0 ∧ s.irq.flags = 0x01 ∧ s.read8 0xFF0F = 0xE1 ∧
    s.read8 0xFFFF = 0x00 ∧
    (List.range 32).map (fun i => s.read8 (0xFF10 + BitVec.ofNat 16 i)) =
      [0x80, 0xBF, 0xF3, 0xFF, 0xBF, 0xFF, 0x3F, 0x00, 0xFF, 0xBF, 0x7F, 0xFF, 0x9F, 0xFF, 0xBF, 0xFF,
       0xFF, 0x00, 0x00, 0xBF, 0x77, 0xF3, 0xF1, 0xFF, 0xFF, 0xFF, 0xFF, 0xFF, 0xFF, 0xFF, 0xFF, 0xFF] ∧
    s.read8 0xFF40 = 0x91 ∧ s.ppu.stat = 0 ∧ s.read8 0xFF41 = 0x86 ∧ s.read8 0xFF42 = 0x00 ∧
    s.read8 0xFF43 = 0x00 ∧ s.read8 0xFF45 = 0x00 ∧ s.read8 0xFF4A = 0x00 ∧ s.read8 0xFF4B = 0x00 ∧
    s.read8 0xFF46 = 0xFF ∧ s.read8 0xFF47 = 0xFC ∧ s.read8 0xFF48 = d.obp0 ∧ s.read8 0xFF49 = d.obp1 ∧
    s.ppu.ly = 0 ∧ s.ppu.dot = 0 ∧ s.ppu.mode = .oamScan ∧ s.ppu.drawLen = 172 ∧
    s.ppu.statLine = false ∧ s.ppu.wyHit = false ∧ s.ppu.winLine = 0 ∧ s.ppu.winDrawn = false ∧
    s.ppu.objs = [] ∧ (∀ line column, Frame.pixel s.ppu.back line column = 0) ∧
    (∀ line column, Frame.pixel s.ppu.front line column = 0) ∧
    ({} : Draws).divInit = 0xAB00

/-- The reset state the model names meets the invariant (70 R430; log entries 2, 4 and 5 name its open
values). -/
def Obligations.ResetMeetsTheInvariant : Prop := State.reset.inv = true

/-- Every launch the loader admits gives a state that meets the invariant (20 R90; 70 R430). -/
def Obligations.LaunchMeetsTheInvariant : Prop :=
  ∀ (image : List Byte) (mbc : Mbc) (ramSize : RamSize) (p : Params) (d : Draws) (s : State),
    d.wf ramSize = true → launch image mbc ramSize p d = .next s → s.inv = true

/-- Which cartridges are launched, and which refused (20 R90; 70 R433). That a header byte at 0x0149 outside
0x00 to 0x03 refuses a NoMBC cartridge too, on which R90 puts no condition of RAM size, is the model's reading,
log entry 21. -/
def Obligations.LaunchAdmission : Prop :=
  (∀ (image : List Byte) (mbc : Mbc) (ramSize : RamSize) (p : Params) (d : Draws),
    let admitted :=
      (mbc = .noMbc ∧ image.length = 32768) ∨
      (mbc = .mbc1 ∧ ∃ k, 1 ≤ k ∧ k ≤ 7 ∧ image.length = 0x4000 * 2 ^ k)
    (admitted → ∃ s, launch image mbc ramSize p d = .next s ∧ s.cart.mbc = mbc ∧
      s.cart.ramSize = ramSize ∧ s.cart.romBanks * 0x4000 = image.length ∧
      ∀ i < image.length, Store.get s.cart.rom i = image.getD i 0) ∧
    (¬admitted → launch image mbc ramSize p d = .refused .cartridgeNotAdmitted)) ∧
  ∀ (image : List Byte) (p : Params) (d : Draws),
    let mbcByte := image.getD 0x0147 0
    let ramByte := image.getD 0x0149 0
    (∀ mbc ramSize,
      (mbc = .noMbc ∧ mbcByte ∈ [0x00, 0x08, 0x09] ∨ mbc = .mbc1 ∧ mbcByte ∈ [0x01, 0x02, 0x03]) →
      ((ramByte = 0x00 ∧ ramSize = .none) ∨ (ramByte = 0x01 ∧ ramSize = .kib2) ∨
        (ramByte = 0x02 ∧ ramSize = .kib8) ∨ (ramByte = 0x03 ∧ ramSize = .kib32)) →
      launchImage image p d = launch image mbc ramSize p d) ∧
    (mbcByte ∉ [0x00, 0x08, 0x09, 0x01, 0x02, 0x03] ∨ ramByte ∉ [0x00, 0x01, 0x02, 0x03] →
      launchImage image p d = .refused .cartridgeNotAdmitted)

/-! ### Invariants and whole-machine rules -/

/-- Every step, and every other action of the host, keeps the invariant: memories canonical and of their
sizes, `bank1` not 0, the PPU's counters in range, its mode the function of them 65 R372 gives, its STAT line
up to date, a Faulted CPU at the illegal byte it reports. The bound of `win_line`
(`Ppu.winBound`) admits 144 from line 143's HBlank until it is cleared, where 65 R377's count leaves the range
0..143 of 10 R53: log entry 13's reading of the two rules. -/
def Obligations.StepKeepsTheInvariant : Prop :=
  (∀ (s t : State), s.inv = true → step s = .next t → t.inv = true) ∧
  ∀ (x : HostAction) (s t : State), s.inv = true → hostAct x s = .next t → t.inv = true

/-- No step, and no other action of the host, changes the ROM, the variant, the RAM size or a parameter
(10 R56). -/
def Obligations.ConfigurationIsFixed : Prop :=
  ∀ (x : HostAction) (s t : State), hostAct x s = .next t →
    t.cart.rom = s.cart.rom ∧ t.cart.mbc = s.cart.mbc ∧ t.cart.ramSize = s.cart.ramSize ∧
      t.cart.romBanks = s.cart.romBanks ∧ t.params = s.params

/-- The eleven illegal bytes, and nothing else, lead to the Faulted state, which holds the address and the byte
and leaves PC there; every register, flag, latch but the halt bug, memory and unit is kept and no time passes
(47 R296; 30 R131). That the opcode fetch clears the halt bug is 60 R311's (log entry 20). -/
def Obligations.IllegalOpcodeIsTheOnlyFault : Prop :=
  (∀ (i : Instr) (byte : Byte), i.illegalByte = some byte →
    encode i = [byte] ∧
    ∀ s, exec i s = .next
      { s with cpu := { s.cpu with haltBug := false, run := .faulted s.cpu.pc byte }, cost := 0 }) ∧
  (∀ (s t : State) (a : Word) (byte : Byte), step s = .next t → t.cpu.run = .faulted a byte →
    (∀ a' b', s.cpu.run ≠ .faulted a' b') →
      a = s.cpu.pc ∧ byte = s.read8 s.cpu.pc ∧
      byte ∈ [0xD3, 0xDB, 0xDD, 0xE3, 0xE4, 0xEB, 0xEC, 0xED, 0xF4, 0xFC, 0xFD] ∧
      t = { s with cpu := { s.cpu with haltBug := false, run := .faulted a byte }, cost := 0 }) ∧
  ∀ (s : State) (a : Word) (byte : Byte), s.cpu.run = .faulted a byte →
    step s = .next (s.setCost 0) ∧ s.readFault = some (.illegalOpcode a byte)

/-! ### Memory -/

/-- A byte written where storage answers, and not blocked, is read back (20 R66-R70, R73, R74, R84). -/
def Obligations.ReadAfterWrite : Prop :=
  ∀ (s : State) (a : Word) (v : Byte), s.blocked a = false →
    (0x8000 ≤ a.toNat ∧ a.toNat < 0xFEA0 ∧ (0xA000 ≤ a.toNat → a.toNat < 0xC000 → s.cart.ramOpen = true)) ∨
      0xFF80 ≤ a.toNat →
    (s.write8 a v).read8 a = v

/-- A write changes what a read gives at no address but those its region or register names: the cell and its
aliases, and the side effects listed in 20 R79. -/
def Obligations.WriteTouchesOnlyItsCells : Prop :=
  ∀ (s : State) (a b : Word) (v : Byte), touches s a b = false → (s.write8 a v).read8 b = s.read8 b

/-- Contention (20 R76), and the mirror (20 R69). The mode that counts is the one at the instruction's start:
no write but LCDC's changes what is blocked, and none, LCDC's among them, what is blocked at the two addresses
beside it, where the second byte of a two-byte store or push goes. -/
def Obligations.ContentionBlocks : Prop :=
  ∀ (s : State) (a : Word) (v : Byte),
    let blocked :=
      s.params.contention = true ∧ bitOf s.ppu.lcdc 7 = true ∧
        ((0x8000 ≤ a.toNat ∧ a.toNat < 0xA000 ∧ s.ppu.mode = .drawing) ∨
          (0xFE00 ≤ a.toNat ∧ a.toNat < 0xFF00 ∧ (s.ppu.mode = .oamScan ∨ s.ppu.mode = .drawing)))
    let free := { s with params := { s.params with contention := false } }
    (blocked → s.read8 a = 0xFF ∧ s.write8 a v = s) ∧
    (¬blocked → s.read8 a = free.read8 a ∧
      { s.write8 a v with params := free.params } = free.write8 a v) ∧
    (∀ b, a ≠ 0xFF40 ∨ b = a + 1 ∨ b = a - 1 → (s.write8 a v).blocked b = s.blocked b) ∧
    (0xE000 ≤ a.toNat → a.toNat < 0xFE00 →
      s.read8 a = s.read8 (a - 0x2000) ∧ s.write8 a v = s.write8 (a - 0x2000) v)

/-- What is read and written at the cartridge's addresses under both controllers: the banked ROM byte and the
external RAM (20 R63, R64, R67, R91, R93, R94, R95). -/
def Obligations.CartridgeBanking : Prop :=
  ∀ (s : State) (a : Word) (v : Byte),
    let c := s.cart
    let low := (if c.mode then c.bank2.toNat <<< 5 else 0) % c.romBanks
    let high := (c.bank2 ++ c.bank1).toNat % c.romBanks
    let enabled := match c.mbc with
      | .noMbc => 0 < c.ramSize.bytes
      | .mbc1 => c.ramEnable = true ∧ 0 < c.ramSize.bytes
    let cell := match c.mbc with
      | .noMbc => (a - 0xA000).toNat % c.ramSize.bytes
      | .mbc1 => ((if c.mode then c.bank2.toNat else 0) * 0x2000 + (a - 0xA000).toNat) % c.ramSize.bytes
    (a.toNat < 0x4000 →
      s.read8 a = Store.get c.rom (match c.mbc with
        | .noMbc => a.toNat
        | .mbc1 => low * 0x4000 + a.toNat)) ∧
    (0x4000 ≤ a.toNat → a.toNat < 0x8000 →
      s.read8 a = Store.get c.rom (match c.mbc with
        | .noMbc => a.toNat
        | .mbc1 => high * 0x4000 + (a - 0x4000).toNat)) ∧
    (a.toNat < 0x8000 → c.mbc = .noMbc → s.write8 a v = s) ∧
    (0xA000 ≤ a.toNat → a.toNat < 0xC000 →
      (enabled → s.read8 a = Store.get c.ram cell ∧
        s.write8 a v = { s with cart := { c with ram := Store.set c.ram cell v } }) ∧
      (¬enabled → s.read8 a = 0xFF ∧ s.write8 a v = s)) ∧
    (c.romBanks ∣ 32 → low = 0)

/-- MBC1's registers (20 R92): each write sets one, bank 0 becomes 1, and the ROM itself never changes; with 32
banks of ROM or more (a number that 32 divides) no bank whose low five bits are 0 is seen at 0x4000. -/
def Obligations.Mbc1Registers : Prop :=
  ∀ (s : State) (a : Word) (v : Byte), s.cart.mbc = .mbc1 →
    (a.toNat < 0x2000 →
      s.write8 a v = { s with cart := { s.cart with ramEnable := decide (v.toNat % 16 = 10) } }) ∧
    (0x2000 ≤ a.toNat → a.toNat < 0x4000 → ∃ b : BitVec 5,
      s.write8 a v = { s with cart := { s.cart with bank1 := b } } ∧
      b.toNat = if v.toNat % 32 = 0 then 1 else v.toNat % 32) ∧
    (0x4000 ≤ a.toNat → a.toNat < 0x6000 → ∃ b : BitVec 2,
      s.write8 a v = { s with cart := { s.cart with bank2 := b } } ∧ b.toNat = v.toNat % 4) ∧
    (0x6000 ≤ a.toNat → a.toNat < 0x8000 →
      s.write8 a v = { s with cart := { s.cart with mode := bitOf v 0 } }) ∧
    (s.cart.bank1 ≠ 0 → 32 ∣ s.cart.romBanks → s.cart.romBankHi % 32 ≠ 0)

/-- OAM DMA (20 R80, R81): a write of v to 0xFF46 stores v, copies the 160 bytes of page v past the contention
check, and adds the DMA's T-cycles; the copy one byte after the other gives the same OAM. -/
def Obligations.DmaCopiesAPage : Prop :=
  ∀ (s : State) (v : Byte),
    let u := { s with mem := { s.mem with dma := v } }
    let free := { u with params := { s.params with contention := false } }
    let source (i : Nat) : Word := v.setWidth 16 <<< 8 + BitVec.ofNat 16 i
    let t := s.write8 0xFF46 v
    (∃ oam, t = { u with mem := { u.mem with oam := oam }, cost := s.cost + s.params.dmaCycles }) ∧
    (∀ i < 160, Store.get t.mem.oam i = free.read8 (source i)) ∧
    (Memory.wf 160 s.mem.oam = true →
      t.mem.oam =
        ((List.range 160).foldl
          (fun w i => { w with mem := { w.mem with oam := Store.set w.mem.oam i (w.read8 (source i)) } })
          free).mem.oam)

/-- What a read of an I/O register gives right after a write of v to it (10 R35-R51): the stored bits, the
others as their rules say. -/
def Obligations.IoRegistersReadBack : Prop :=
  ∀ (s : State) (v : Byte),
    let after (a : Word) : Byte := (s.write8 a v).read8 a
    (after 0xFF00 &&& 0xF0 = (v &&& 0x30) ||| 0xC0) ∧ after 0xFF01 = v ∧
    after 0xFF02 = (v &&& 0x81) ||| 0x7E ∧ after 0xFF04 = 0 ∧ after 0xFF05 = v ∧ after 0xFF06 = v ∧
    after 0xFF07 = (v &&& 0x07) ||| 0xF8 ∧ after 0xFF0F = (v &&& 0x1F) ||| 0xE0 ∧
    (∀ a : Word, 0xFF10 ≤ a.toNat → a.toNat ≤ 0xFF3F → after a = v) ∧ after 0xFF40 = v ∧
    (after 0xFF41 &&& 0xF8 = (v &&& 0x78) ||| 0x80) ∧ after 0xFF42 = v ∧ after 0xFF43 = v ∧
    s.write8 0xFF44 v = s ∧ after 0xFF44 = BitVec.ofNat 8 s.ppu.ly ∧ after 0xFF45 = v ∧
    after 0xFF46 = v ∧ after 0xFF47 = v ∧ after 0xFF48 = v ∧ after 0xFF49 = v ∧ after 0xFF4A = v ∧
    after 0xFF4B = v ∧ after 0xFFFF = v ∧
    ∀ a : Word, (a = 0xFF03 ∨ (0xFF08 ≤ a.toNat ∧ a.toNat ≤ 0xFF0E) ∨ (0xFF4C ≤ a.toNat ∧ a.toNat ≤ 0xFF7F)) →
      after a = 0xFF ∧ s.write8 a v = s

/-- P1 (10 R35): a line of a selected group reads 0 when its button is pressed. A fall of a line, by a sample
or by a write to P1, and nothing else of either, requests the Joypad interrupt and wakes a Stopped CPU
(20 R100, R101), whose steps cost nothing and change nothing until then (60 R319). Of all that the host can do
nothing but a sample that makes a line fall takes the CPU out of Stopped. -/
def Obligations.JoypadLinesAndStop : Prop :=
  (∀ (s : State) (v : Byte),
    (∀ i < 4, bitOf (s.read8 0xFF00) i =
      !((!s.pad.selDir && bitOf s.pad.buttons i) || (!s.pad.selAct && bitOf s.pad.buttons (i + 4)))) ∧
    bitOf (s.read8 0xFF00) 4 = s.pad.selDir ∧ bitOf (s.read8 0xFF00) 5 = s.pad.selAct ∧
    bitOf (s.read8 0xFF00) 6 = true ∧ bitOf (s.read8 0xFF00) 7 = true ∧
    (s.pushJoypad v).pad = { s.pad with buttons := v } ∧
    (s.write8 0xFF00 v).pad = { s.pad with selAct := bitOf v 5, selDir := bitOf v 4 } ∧
    ∀ t, t = s.pushJoypad v ∨ t = s.write8 0xFF00 v →
      let fell := ∃ i < 4, bitOf (s.read8 0xFF00) i = true ∧ bitOf (t.read8 0xFF00) i = false
      (fell → t = { s with
        pad := t.pad, irq := { s.irq with flags := s.irq.flags ||| 16 },
        cpu := { s.cpu with run := if s.cpu.run = .stopped then .running else s.cpu.run } }) ∧
      (¬fell → t = { s with pad := t.pad })) ∧
  (∀ s : State, s.cpu.run = .stopped → step s = .next (s.setCost 0)) ∧
  ∀ (x : HostAction) (s t : State), s.cpu.run = .stopped → hostAct x s = .next t → t.cpu.run ≠ .stopped →
    ∃ v, x = .joypad v ∧ t = s.pushJoypad v ∧
      ∃ i < 4, bitOf (s.read8 0xFF00) i = true ∧ bitOf (t.read8 0xFF00) i = false

/-! ### The timer -/

/-- The divider counts every T-cycle; with the timer off TIMA stands still; with it on, TIMA goes up by one in
every period of the selected rate (60 R340, R341, R347). -/
def Obligations.TimaCountsDividerEdges : Prop :=
  ∀ (s : State),
    (∀ n, (s.tCycles n).timer.div = s.timer.div + BitVec.ofNat 16 n) ∧
    (s.timer.reloadWait = 0 → s.timer.tac.getLsbD 2 = false →
      ∀ n, (s.tCycles n).timer.tima = s.timer.tima) ∧
    (s.timer.reloadWait = 0 → s.timer.tac.getLsbD 2 = true → s.timer.tima ≠ 0xFF →
      ∀ period, (s.timer.tac.toNat % 4, period) ∈ [(0, 1024), (1, 16), (2, 64), (3, 256)] →
        (s.tCycles period).timer.tima = s.timer.tima + 1 ∧ (s.tCycles period).timer.reloadWait = 0)

/-- TIMA overflow (60 R343): it reads 0 for P_TIMA_RELOAD_DELAY T-cycles with no request, and is then reloaded
from TMA and the Timer interrupt requested. The delay is one shorter than the fastest TIMA period, as the
default of 4 is. -/
def Obligations.TimaReloadsAfterTheDelay : Prop :=
  ∀ (s : State),
    0 < s.params.timaReloadDelay → s.params.timaReloadDelay < 16 → s.timer.reloadWait = 0 →
    s.timer.tima = 0xFF → timerSig s.timer.div s.timer.tac = true →
    timerSig (s.timer.div + 1) s.timer.tac = false →
      (∀ j < s.params.timaReloadDelay, (s.tCycles (1 + j)).timer.tima = 0 ∧
        (s.tCycles (1 + j)).irq.flags.getLsbD 2 = s.irq.flags.getLsbD 2) ∧
      (s.tCycles (1 + s.params.timaReloadDelay)).timer.tima = s.timer.tma ∧
      (s.tCycles (1 + s.params.timaReloadDelay)).irq.flags.getLsbD 2 = true

/-- Writes to the timer's registers (60 R342, R344, R345): a write to DIV or TAC that makes the timer signal
fall clocks TIMA, and STOP resets DIV as a write does; a write to TIMA cancels a pending reload; a write to TMA
only stores. -/
def Obligations.TimerRegisterWrites : Prop :=
  ∀ (s : State) (v : Byte),
    let d := s.params.timaReloadDelay
    (∃ u, s.write8 0xFF04 v = { s with timer := u } ∧ u.div = 0 ∧ u.tac = s.timer.tac ∧
      TimaClocked d (timerSig s.timer.div s.timer.tac) s.timer u) ∧
    (∃ t, exec .stop s = .next t ∧ t.timer = (s.write8 0xFF04 0).timer) ∧
    (∃ u, s.write8 0xFF07 v = { s with timer := u } ∧ u.div = s.timer.div ∧ u.tac.toNat = v.toNat % 8 ∧
      TimaClocked d (timerSig s.timer.div s.timer.tac && !timerSig s.timer.div u.tac) s.timer u) ∧
    s.write8 0xFF05 v = { s with timer := { s.timer with tima := v, reloadWait := 0 } } ∧
    s.write8 0xFF06 v = { s with timer := { s.timer with tma := v } }

/-! ### The PPU -/

/-- With the LCD on, the beam moves one dot a T-cycle over 154 lines of 456 dots, a frame of 70224 dots
(65 R371, R374, R377). -/
def Obligations.BeamMovesOneDotPerCycle : Prop :=
  ∀ (s : State) (n : Nat), s.ppu.inv = true → s.ppu.lcdOn = true →
    let p := (s.tCycles n).ppu
    p.ly < 154 ∧ p.dot < 456 ∧
      456 * p.ly + p.dot = (456 * s.ppu.ly + s.ppu.dot + n) % 70224

/-- From the start of a visible line the modes are 2, 3 and 0, each once, with a Drawing length of 172 to 289
dots; lines 144 to 153 are mode 1 throughout, and line 0 follows line 153 in mode 2 (65 R373). -/
def Obligations.LineModes : Prop :=
  ∀ (s : State), s.ppu.inv = true → s.ppu.lcdOn = true → s.ppu.dot = 0 →
    (s.ppu.ly < 144 → ∃ len, 172 ≤ len ∧ len ≤ 289 ∧
      (∀ n < 456, (s.tCycles n).ppu.mode =
        if n < 80 then .oamScan else if n < 80 + len then .drawing else .hblank) ∧
      (s.tCycles 456).ppu.mode = if s.ppu.ly = 143 then .vblank else .oamScan) ∧
    (144 ≤ s.ppu.ly → (∀ n < 456, (s.tCycles n).ppu.mode = .vblank) ∧
      (s.ppu.ly = 153 → (s.tCycles 456).ppu.mode = .oamScan ∧ (s.tCycles 456).ppu.ly = 0))

/-- On entry to line 144, and at no other dot, the VBlank interrupt is requested and the frame is published
(65 R375). -/
def Obligations.VBlankEntry : Prop :=
  ∀ (s : State), s.ppu.inv = true →
    let t := s.ppuTick
    (s.ppu.lcdOn = true → s.ppu.ly = 143 → s.ppu.dot = 455 →
      t.ppu.ly = 144 ∧ t.ppu.mode = .vblank ∧ t.irq.flags.getLsbD 0 = true ∧ t.ppu.front = s.ppu.back) ∧
    (¬(s.ppu.lcdOn = true ∧ s.ppu.ly = 143 ∧ s.ppu.dot = 455) →
      t.irq.flags.getLsbD 0 = s.irq.flags.getLsbD 0 ∧ t.ppu.front = s.ppu.front)

/-- Switching the LCD off and on by a write to LCDC; while it is off the PPU stands still, LY reads 0, STAT mode
0, and nothing is blocked (65 R398). -/
def Obligations.LcdOnOff : Prop :=
  ∀ (s : State) (v : Byte), s.ppu.inv = true →
    let t := s.write8 0xFF40 v
    (bitOf s.ppu.lcdc 7 = true → bitOf v 7 = false →
      t = { s with
        ppu := { s.ppu with lcdc := v, ly := 0, dot := 0, mode := .hblank, statLine := false } }) ∧
    (bitOf s.ppu.lcdc 7 = false → bitOf v 7 = true →
      ∃ line irq,
        t = { s with
          ppu := { s.ppu with
            lcdc := v, ly := 0, dot := 0, mode := .oamScan, wyHit := false, winLine := 0, objs := [],
            drawLen := 172, statLine := line }
          irq := irq } ∧
        (line = true ↔ bitOf (s.read8 0xFF41) 5 = true ∨
          (bitOf (s.read8 0xFF41) 6 = true ∧ s.read8 0xFF45 = 0)) ∧
        irq = { s.irq with flags := if line = true then s.irq.flags ||| 2 else s.irq.flags }) ∧
    (bitOf s.ppu.lcdc 7 = bitOf v 7 → t = { s with ppu := { s.ppu with lcdc := v } }) ∧
    (bitOf s.ppu.lcdc 7 = false →
      s.ppuTick = s ∧ s.read8 0xFF44 = 0 ∧ s.read8 0xFF41 &&& 3 = 0 ∧ ∀ a, s.blocked a = false)

/-- The STAT line (65 R378): after a dot with the LCD on, and after a write to STAT, LYC or LCDC, it is the OR
of the enabled sources, and LCD-STAT is requested exactly when it rose. -/
def Obligations.StatInterruptOnRisingEdge : Prop :=
  ∀ (s t : State),
    (s.ppu.lcdOn = true ∧ t = s.ppuTick) ∨
      (∃ v, t = s.write8 0xFF41 v ∨ t = s.write8 0xFF45 v ∨ t = s.write8 0xFF40 v) →
    (t.ppu.statLine = true ↔
      bitOf t.ppu.lcdc 7 = true ∧
        ((bitOf (t.read8 0xFF41) 6 = true ∧ t.ppu.ly = t.ppu.lyc.toNat) ∨
          (bitOf (t.read8 0xFF41) 5 = true ∧ t.ppu.mode = .oamScan) ∨
          (bitOf (t.read8 0xFF41) 4 = true ∧ t.ppu.mode = .vblank) ∨
          (bitOf (t.read8 0xFF41) 3 = true ∧ t.ppu.mode = .hblank))) ∧
    t.irq.flags.getLsbD 1 =
      (s.irq.flags.getLsbD 1 || (t.ppu.statLine && !s.ppu.statLine))

/-- Dot 80 of a visible line, and the window's hidden state at every dot. At dot 80 the object list is the first
ten entries, in table order, that cover the line (65 R379); the Drawing length is P_MODE3_LEN on the state at
that dot, 65 R383's formula where the parameter is its default (log entry 6 says how it may be another function);
`wy_hit` is set if LY is WY and `win_drawn` cleared. At the end of Drawing a line that drew the window counts up
`win_line`, which is in the range 0..143 of 10 R53 at every dot that reads it and 144 at most elsewhere
(log entry 13); line 0 clears `wy_hit` and `win_line`; no other dot changes either (65 R377, R385). -/
def Obligations.DotEightyScansOam : Prop :=
  ∀ (s : State), s.ppu.inv = true → s.ppu.lcdOn = true →
    let p := s.ppuTick.ppu
    let starts := s.ppu.ly < 144 ∧ s.ppu.dot = 79
    let ends := s.ppu.ly < 144 ∧ s.ppu.dot + 1 = 80 + s.ppu.drawLen
    let wraps := s.ppu.ly = 153 ∧ s.ppu.dot = 455
    let h := if bitOf s.ppu.lcdc 2 then 16 else 8
    let covers (i : Nat) : Prop :=
      (Store.get s.mem.oam (4 * i)).toNat ≤ s.ppu.ly + 16 ∧
        s.ppu.ly + 16 < (Store.get s.mem.oam (4 * i)).toNat + h
    let windowOn := bitOf s.ppu.lcdc 5 = true ∧ bitOf s.ppu.lcdc 0 = true ∧
      (s.ppu.wyHit = true ∨ s.ppu.ly = s.ppu.wy.toNat) ∧ s.ppu.wx.toNat ≤ 166
    (starts →
      p.objs.Pairwise (· < ·) ∧ p.objs.length ≤ 10 ∧ (∀ i ∈ p.objs, i < 40 ∧ covers i) ∧
      (∀ i < 40, covers i → i ∈ p.objs ∨ (p.objs.length = 10 ∧ ∀ j ∈ p.objs, j < i)) ∧
      (s.params.mode3Len = .formula → ∃ w o, w = (if windowOn then 6 else 0) ∧
        o = (if bitOf s.ppu.lcdc 1 then 6 * p.objs.length else 0) ∧
        p.drawLen = min (172 + s.ppu.scx.toNat % 8 + w + o) 289) ∧
      (∀ k, s.params.mode3Len = .other k → p.drawLen = 172 + (Config.drawLen k
        { s with ppu := { s.ppu with dot := 80, wyHit := p.wyHit, objs := p.objs } }).val) ∧
      (p.wyHit = true ↔ s.ppu.wyHit = true ∨ s.ppu.ly = s.ppu.wy.toNat) ∧ p.winLine = s.ppu.winLine ∧
      p.winDrawn = false) ∧
    (ends →
      p.wyHit = s.ppu.wyHit ∧ p.winLine = (if s.ppu.winDrawn then s.ppu.winLine + 1 else s.ppu.winLine)) ∧
    p.winLine ≤ 144 ∧ (p.ly < 144 → p.mode ≠ .hblank → p.winLine ≤ 143) ∧
    (wraps → p.wyHit = false ∧ p.winLine = 0) ∧
    (¬starts → ¬ends → ¬wraps → p.wyHit = s.ppu.wyHit ∧ p.winLine = s.ppu.winLine)

/-- Of the objects that cover a pixel and are not transparent there, the one with the smallest X wins, on equal
X the one with the smallest index (65 R382). -/
def Obligations.ObjectPriority : Prop :=
  ∀ (vram oam : Memory) (p : Ppu) (sx : Nat),
    (p.objWinner vram oam sx = none ↔ ∀ i ∈ p.objs, p.objPixel vram oam sx i = none) ∧
    ∀ w, p.objWinner vram oam sx = some w →
      (∃ i ∈ p.objs, p.objPixel vram oam sx i = some w) ∧
      ∀ i ∈ p.objs, ∀ o, p.objPixel vram oam sx i = some o →
        w.x < o.x ∨ (w.x = o.x ∧ w.index ≤ o.index)

/-- Tiles and what a dot draws. Tile decoding for every row and column, and the tile's address (65 R387); the
spec's example of it, 0, 2, 3, 3, 3, 3, 2, 0 (65 R388); an object's pixel (65 R381). With the LCD on, a dot that is
one of the last 160 of Drawing writes one cell of `back`, the line's pixel k, and no other dot writes any: its shade
is the window's or the background's through BGP, 0 with LCDC bit 0 clear, or that of the winning object over it
(65 R384, R385, R389, R391, R393); a window pixel sets `win_drawn`. -/
def Obligations.TileRowExample : Prop :=
  (∀ (vram : Memory) (base row col : Nat), col < 8 →
    tilePixel vram base row col =
      2 * ((Store.get vram (base + 2 * row + 1)).toNat / 2 ^ (7 - col) % 2) +
        (Store.get vram (base + 2 * row)).toNat / 2 ^ (7 - col) % 2) ∧
  (∀ t : Byte, bgTileOffset true t = 16 * t.toNat ∧
    bgTileOffset false t = if t.toNat < 128 then 0x1000 + 16 * t.toNat else 16 * t.toNat) ∧
  (∀ (vram : Memory) (base : Nat), Store.get vram base = 0x3C → Store.get vram (base + 1) = 0x7E →
    (List.range 8).map (tilePixel vram base 0) = [0, 2, 3, 3, 3, 3, 2, 0]) ∧
  (∀ (vram oam : Memory) (p : Ppu) (sx i : Nat) (o : ObjPixel),
    let y := (Store.get oam (4 * i)).toNat
    let x := (Store.get oam (4 * i + 1)).toNat
    let number := (Store.get oam (4 * i + 2)).toNat
    let attr := Store.get oam (4 * i + 3)
    let h := if bitOf p.lcdc 2 then 16 else 8
    p.objPixel vram oam sx i = some o ↔
      ∃ row col tile, x ≤ sx + 8 ∧ sx < x ∧ y ≤ p.ly + 16 ∧ p.ly + 16 < y + h ∧
        (row = if bitOf attr 6 then y + h - 1 - (p.ly + 16) else p.ly + 16 - y) ∧
        (col = if bitOf attr 5 then x - 1 - sx else sx + 8 - x) ∧
        (tile = if bitOf p.lcdc 2 then number - number % 2 + row / 8 else number) ∧
        o.x = x ∧ o.index = i ∧ o.attr = attr ∧ o.color = tilePixel vram (16 * tile) (row % 8) col ∧
        o.color ≠ 0) ∧
  ∀ (s : State), s.ppu.inv = true → s.ppu.lcdOn = true →
    let p := s.ppuTick.ppu
    let k := p.dot + 160 - (80 + p.drawLen)
    let drawn := p.ly < 144 ∧ 80 + p.drawLen ≤ p.dot + 160 ∧ p.dot < 80 + p.drawLen
    let inWindow := bitOf p.lcdc 5 = true ∧ bitOf p.lcdc 0 = true ∧ p.wyHit = true ∧ p.wx.toNat ≤ 166 ∧
      p.wx.toNat ≤ k + 7
    let cell (hiMap : Bool) (px py : Nat) : Nat :=
      let number := Store.get s.mem.vram ((if hiMap then 0x1C00 else 0x1800) + 32 * (py / 8) + px / 8)
      tilePixel s.mem.vram (bgTileOffset (bitOf p.lcdc 4) number) (py % 8) (px % 8)
    let shadeOf (palette : Byte) (c : Nat) : Nat := palette.toNat / 4 ^ c % 4
    let wins (w : ObjPixel) : Prop := (∃ i ∈ p.objs, p.objPixel s.mem.vram s.mem.oam k i = some w) ∧
      ∀ i ∈ p.objs, ∀ o, p.objPixel s.mem.vram s.mem.oam k i = some o →
        w.x < o.x ∨ (w.x = o.x ∧ w.index ≤ o.index)
    (¬drawn → p.back = s.ppu.back ∧
      (¬(s.ppu.ly < 144 ∧ s.ppu.dot = 79) → p.winDrawn = s.ppu.winDrawn)) ∧
    (drawn → ∃ c under,
      c = (if bitOf p.lcdc 0 then
          if inWindow then cell (bitOf p.lcdc 6) (k + 7 - p.wx.toNat) p.winLine
          else cell (bitOf p.lcdc 3) ((k + p.scx.toNat) % 256) ((p.ly + p.scy.toNat) % 256)
        else 0) ∧
      under = (if bitOf p.lcdc 0 then shadeOf p.bgp c else 0) ∧
      (∀ w, bitOf p.lcdc 1 = true → wins w → ¬(bitOf w.attr 7 = true ∧ c ≠ 0) →
        (Frame.pixel p.back p.ly k).toNat = shadeOf (if bitOf w.attr 4 then p.obp1 else p.obp0) w.color) ∧
      ((∀ w, bitOf p.lcdc 1 = true → wins w → bitOf w.attr 7 = true ∧ c ≠ 0) →
        (Frame.pixel p.back p.ly k).toNat = under) ∧
      (∀ line column, column < 160 → ¬(line = p.ly ∧ column = k) →
        Frame.pixel p.back line column = Frame.pixel s.ppu.back line column) ∧
      (p.winDrawn = true ↔ s.ppu.winDrawn = true ∨ inWindow))

/-- What the ticks may change: a PPU tick only the PPU's own hidden state, the frames and IF bits 0 and 1; any
number of T-cycles only the timer, the PPU and IF bits 0 to 2, and they clear no IF bit (65 R397). -/
def Obligations.TicksTouchOnlyTheirUnits : Prop :=
  ∀ (s : State) (n : Nat),
    (∃ p flags, s.ppuTick = { s with ppu := p, irq := { s.irq with flags := flags } } ∧
      p.lcdc = s.ppu.lcdc ∧ p.stat = s.ppu.stat ∧ p.scy = s.ppu.scy ∧ p.scx = s.ppu.scx ∧
      p.lyc = s.ppu.lyc ∧ p.bgp = s.ppu.bgp ∧ p.obp0 = s.ppu.obp0 ∧ p.obp1 = s.ppu.obp1 ∧
      p.wy = s.ppu.wy ∧ p.wx = s.ppu.wx ∧
      ∀ j, 2 ≤ j → flags.getLsbD j = s.irq.flags.getLsbD j) ∧
    ∃ p timer flags, s.tCycles n = { s with ppu := p, timer := timer, irq := { s.irq with flags := flags } } ∧
      (∀ j, s.irq.flags.getLsbD j = true → flags.getLsbD j = true) ∧
      ∀ j, 3 ≤ j → flags.getLsbD j = s.irq.flags.getLsbD j

/-! ### 8-bit loads (40) -/

/-- LD r,r' and LD r,n (40 R150, R153). -/
def Obligations.RegisterLoads : Prop :=
  (∀ dst src : Reg8,
    LoadsByte (Instr.ldRegReg dst src) [opByte 1 dst.code src.code] 4 dst (fun s => s.reg src)) ∧
  ∀ (dst : Reg8) (n : Byte), LoadsByte (Instr.ldRegImm dst n) [opByte 0 dst.code 6, n] 8 dst (fun _ => n)

/-- LD r,(HL), LD A,(BC), LD A,(DE), LD A,(nn), LDH A,(n) and LDH A,(C) (40 R151, R155, R156, R159, R161,
R163). -/
def Obligations.MemoryLoads : Prop :=
  (∀ dst : Reg8, LoadsByte (Instr.ldRegMem dst) [opByte 1 dst.code 6] 8 dst (fun s => s.read8 s.hl)) ∧
  LoadsByte .ldAAtBC [0x0A] 8 .a (fun s => s.read8 (pair (s.reg .b) (s.reg .c))) ∧
  LoadsByte .ldAAtDE [0x1A] 8 .a (fun s => s.read8 (pair (s.reg .d) (s.reg .e))) ∧
  (∀ nn : Word, LoadsByte (.ldAAtNn nn) [0xFA, loByte nn, hiByte nn] 16 .a (fun s => s.read8 nn)) ∧
  (∀ n : Byte, LoadsByte (.ldhAAtN n) [0xF0, n] 12 .a (fun s => s.read8 (0xFF00 + n.setWidth 16))) ∧
  LoadsByte .ldhAAtC [0xF2] 8 .a (fun s => s.read8 (0xFF00 + (s.reg .c).setWidth 16))

/-- LD (HL),r, LD (HL),n, LD (BC),A, LD (DE),A, LD (nn),A, LDH (n),A and LDH (C),A (40 R152, R154, R157, R158,
R160, R162, R164). -/
def Obligations.MemoryStores : Prop :=
  (∀ src : Reg8, StoresByte (Instr.ldMemReg src) [opByte 1 6 src.code] 8 (·.hl) (fun s => s.reg src)) ∧
  (∀ n : Byte, StoresByte (.ldAtHLN n) [0x36, n] 12 (·.hl) (fun _ => n)) ∧
  StoresByte .ldAtBCA [0x02] 8 (fun s => pair (s.reg .b) (s.reg .c)) (·.reg .a) ∧
  StoresByte .ldAtDEA [0x12] 8 (fun s => pair (s.reg .d) (s.reg .e)) (·.reg .a) ∧
  (∀ nn : Word, StoresByte (.ldAtNnA nn) [0xEA, loByte nn, hiByte nn] 16 (fun _ => nn) (·.reg .a)) ∧
  (∀ n : Byte, StoresByte (.ldhAtNA n) [0xE0, n] 12 (fun _ => 0xFF00 + n.setWidth 16) (·.reg .a)) ∧
  StoresByte .ldhAtCA [0xE2] 8 (fun s => 0xFF00 + (s.reg .c).setWidth 16) (·.reg .a)

/-- LD (HL+),A, LD (HL-),A, LD A,(HL+) and LD A,(HL-): HL moves by one after the access (40 R165-R168). -/
def Obligations.PointerStepLoads : Prop :=
  (∀ i byte d, (i, byte, d) ∈ [(Instr.ldAtHLIncA, (0x22 : Byte), (1 : Word)), (.ldAtHLDecA, 0x32, 0xFFFF)] →
    encode i = [byte] ∧
    ∀ s, ∃ t, Completes i s t 1 (8 + dmaCharge s s.hl) ∧ t.hl = s.hl + d ∧ t.cpu.f = s.cpu.f ∧
      t.cpu.sp = s.cpu.sp ∧ StoreFrame [.h, .l] s.hl (s.reg .a) s t) ∧
  ∀ i byte d, (i, byte, d) ∈ [(Instr.ldAAtHLInc, (0x2A : Byte), (1 : Word)), (.ldAAtHLDec, 0x3A, 0xFFFF)] →
    encode i = [byte] ∧
    ∀ s, ∃ t, Completes i s t 1 8 ∧ t.reg .a = s.read8 s.hl ∧ t.hl = s.hl + d ∧ t.cpu.f = s.cpu.f ∧
      t.cpu.sp = s.cpu.sp ∧ QuietFrame [.a, .h, .l] s t

/-! ### 16-bit loads and arithmetic (41, 43) -/

/-- LD rr,nn, LD SP,HL, INC rr and DEC rr: the pair is written, no flag is (41 R181, R183; 43 R236, R237). -/
def Obligations.PairWrites : Prop :=
  ∀ (s : State) (i : Instr) (bytes : List Byte) (n : Nat) (p : Pair) (v : Word),
    ((∃ nn, i = Instr.ldPairImm p nn ∧ bytes = [opByte 0 (2 * p.code) 1, loByte nn, hiByte nn] ∧ n = 12 ∧
        v = nn) ∨
      (i = .ldSPHL ∧ bytes = [0xF9] ∧ n = 8 ∧ p = .sp ∧ v = s.hl) ∨
      (i = Instr.incPair p ∧ bytes = [opByte 0 (2 * p.code) 3] ∧ n = 8 ∧ v = s.pairOf p + 1) ∨
      (i = Instr.decPair p ∧ bytes = [opByte 0 (2 * p.code + 1) 3] ∧ n = 8 ∧ v = s.pairOf p - 1)) →
    encode i = bytes ∧
      ∃ t, Completes i s t bytes.length n ∧ t.pairOf p = v ∧ (p ≠ .sp → t.cpu.sp = s.cpu.sp) ∧
        t.cpu.f = s.cpu.f ∧ QuietFrame (pairHalves p) s t

/-- ADD HL,rr, ADD SP,e and LD HL,SP+e: the sum and its flags (41 R184, R185; 43 R235, R238). -/
def Obligations.WordSums : Prop :=
  (∀ p : Pair, encode (Instr.addHl p) = [opByte 0 (2 * p.code + 1) 1] ∧
    ∀ s, ∃ t, Completes (Instr.addHl p) s t 1 8 ∧
      t.hl.toNat = (s.hl.toNat + (s.pairOf p).toNat) % 65536 ∧ t.cpu.f.z = s.cpu.f.z ∧ t.cpu.f.n = false ∧
      (t.cpu.f.h = true ↔ s.hl.toNat % 4096 + (s.pairOf p).toNat % 4096 > 0x0FFF) ∧
      (t.cpu.f.c = true ↔ s.hl.toNat + (s.pairOf p).toNat > 0xFFFF) ∧ t.cpu.sp = s.cpu.sp ∧
      QuietFrame [.h, .l] s t) ∧
  ∀ e : Byte,
    encode (.addSPE e) = [0xE8, e] ∧ encode (.ldHLSPE e) = [0xF8, e] ∧
    ∀ s,
      (∃ t, Completes (.addSPE e) s t 2 16 ∧ AddSpEffect s.cpu.sp e t.cpu.sp t.cpu.f ∧ QuietFrame [] s t) ∧
      ∃ t, Completes (.ldHLSPE e) s t 2 12 ∧ AddSpEffect s.cpu.sp e t.hl t.cpu.f ∧ t.cpu.sp = s.cpu.sp ∧
        QuietFrame [.h, .l] s t

/-- LD (nn),SP and PUSH rr: which byte goes where (41 R182, R186, R187). -/
def Obligations.WordStores : Prop :=
  (∀ nn : Word, encode (.ldAtNnSP nn) = [0x08, loByte nn, hiByte nn] ∧
    ∀ s, ∃ t, Completes (.ldAtNnSP nn) s t 3 (20 + dmaCharge s nn + dmaCharge s (nn + 1)) ∧
      t.cpu.f = s.cpu.f ∧ t.cpu.sp = s.cpu.sp ∧
      StoreFrame2 [] nn (loByte s.cpu.sp) (nn + 1) (hiByte s.cpu.sp) s t) ∧
  ∀ p : StackPair, encode (Instr.push p) = [opByte 3 (2 * p.code) 5] ∧
    ∀ s, ∃ t v, Completes (Instr.push p) s t 1 (16 + pushCharge s) ∧ t.cpu.f = s.cpu.f ∧
      v = (match p with
        | .bc => pair (s.reg .b) (s.reg .c)
        | .de => pair (s.reg .d) (s.reg .e)
        | .hl => pair (s.reg .h) (s.reg .l)
        | .af => pair (s.reg .a) s.cpu.f.toByte) ∧
      Pushed v s t

/-- POP rr: the word at SP goes to the pair and SP up by two; POP AF drops the low nibble of F
(41 R188, R189). -/
def Obligations.Pops : Prop :=
  ∀ (p : StackPair), encode (Instr.pop p) = [opByte 3 (2 * p.code) 1] ∧
    ∀ s, ∃ t, Completes (Instr.pop p) s t 1 12 ∧ t.cpu.sp = s.cpu.sp + 2 ∧
      (match p with
        | .bc => pair (t.reg .b) (t.reg .c) = s.stackTop ∧ t.cpu.f = s.cpu.f
        | .de => pair (t.reg .d) (t.reg .e) = s.stackTop ∧ t.cpu.f = s.cpu.f
        | .hl => pair (t.reg .h) (t.reg .l) = s.stackTop ∧ t.cpu.f = s.cpu.f
        | .af => t.reg .a = hiByte s.stackTop ∧ t.cpu.f.toByte = loByte s.stackTop &&& 0xF0 ∧
            t.cpu.f.z = bitOf (loByte s.stackTop) 7 ∧ t.cpu.f.n = bitOf (loByte s.stackTop) 6 ∧
            t.cpu.f.h = bitOf (loByte s.stackTop) 5 ∧ t.cpu.f.c = bitOf (loByte s.stackTop) 4) ∧
      QuietFrame (stackPairHalves p) s t

/-! ### 8-bit arithmetic (42) -/

/-- The ALU group on a register: ADD, ADC, SUB, SBC, AND, XOR, OR, CP (42 R200 and so on). -/
def Obligations.AluOnRegisters : Prop :=
  ∀ (op : AluOp) (r : Reg8), AdjustsAcc (Instr.aluReg op r) [opByte 2 op.code r.code] 4
    (fun s a f => AluEffect op (s.reg .a) (s.reg r) s.cpu.f.c a f)

/-- The ALU group on the byte at HL (42 R201 and so on). -/
def Obligations.AluOnMemory : Prop :=
  ∀ (op : AluOp), AdjustsAcc (Instr.aluMem op) [opByte 2 op.code 6] 8
    (fun s a f => AluEffect op (s.reg .a) (s.read8 s.hl) s.cpu.f.c a f)

/-- The ALU group on an immediate (42 R202 and so on). -/
def Obligations.AluOnImmediates : Prop :=
  ∀ (op : AluOp) (n : Byte), AdjustsAcc (Instr.aluImm op n) [opByte 3 op.code 6, n] 8
    (fun s a f => AluEffect op (s.reg .a) n s.cpu.f.c a f)

/-- INC and DEC of a register and of the byte at HL; Cy is kept (42 R224-R227). -/
def Obligations.ByteIncDec : Prop :=
  (∀ r : Reg8, UpdatesReg (Instr.incReg r) [opByte 0 r.code 4] 4 r IncEffect ∧
    UpdatesReg (Instr.decReg r) [opByte 0 r.code 5] 4 r DecEffect) ∧
  UpdatesMemory .incAtHL [0x34] 12 IncEffect ∧ UpdatesMemory .decAtHL [0x35] 12 DecEffect

/-- DAA, CPL, SCF and CCF (42 R228-R231). -/
def Obligations.AccumulatorAdjusts : Prop :=
  AdjustsAcc .daa [0x27] 4 (fun s a f => DaaEffect (s.reg .a) s.cpu.f a f) ∧
  AdjustsAcc .cpl [0x2F] 4 (fun s a f => a = ~~~s.reg .a ∧ f = { s.cpu.f with n := true, h := true }) ∧
  AdjustsAcc .scf [0x37] 4
    (fun s a f => a = s.reg .a ∧ f = { s.cpu.f with n := false, h := false, c := true }) ∧
  AdjustsAcc .ccf [0x3F] 4
    (fun s a f => a = s.reg .a ∧ f = { s.cpu.f with n := false, h := false, c := !s.cpu.f.c })

/-- The carries of the 8-bit sum and difference are the bits a wider sum shows: Hf is bit 4, and Cy bit 8, of
the operands and the result together (42 R197, R198). -/
def Obligations.CarriesAreSumBits : Prop :=
  ∀ (a b : Byte) (k : Bool),
    (add8 a b k).2.h = bitOf (a ^^^ b ^^^ (add8 a b k).1) 4 ∧
    (add8 a b k).2.c = (a.setWidth 9 + b.setWidth 9 + (BitVec.ofBool k).setWidth 9).getLsbD 8 ∧
    (sub8 a b k).2.h = bitOf (a ^^^ b ^^^ (sub8 a b k).1) 4 ∧
    (sub8 a b k).2.c = (a.setWidth 9 - b.setWidth 9 - (BitVec.ofBool k).setWidth 9).getLsbD 8

/-- DAA makes ADD, ADC, SUB and SBC of two-digit decimal numbers decimal: the digits are those of the sum or
difference, Cy the carry or borrow out of the hundreds (42 R228). -/
def Obligations.DaaIsDecimal : Prop :=
  ∀ (x y : Nat) (k : Bool), x < 100 → y < 100 →
    let bcd (n : Nat) : Byte := BitVec.ofNat 8 (n / 10 * 16 + n % 10)
    let sum := add8 (bcd x) (bcd y) k
    let diff := sub8 (bcd x) (bcd y) k
    (daaResult sum.1 sum.2).1 = bcd ((x + y + k.toNat) % 100) ∧
    ((daaResult sum.1 sum.2).2.c = true ↔ 100 ≤ x + y + k.toNat) ∧
    (daaResult diff.1 diff.2).1 = bcd ((x + 200 - y - k.toNat) % 100) ∧
    ((daaResult diff.1 diff.2).2.c = true ↔ x < y + k.toNat)

/-! ### Rotates, shifts and bits (44, 45) -/

/-- The accumulator rotates, Z always 0, and the CB rotates and shifts of a register, Z from the result
(44 R240-R243, R244-R258). -/
def Obligations.RegisterRotates : Prop :=
  (∀ i byte op, (i, byte, op) ∈ [(Instr.rlca, (0x07 : Byte), RotOp.rlc), (.rrca, 0x0F, .rrc),
      (.rla, 0x17, .rl), (.rra, 0x1F, .rr)] →
    AdjustsAcc i [byte] 4
      (fun s a f => ∃ co, RotEffect op (s.reg .a) s.cpu.f.c a co ∧ RotFlags False co f)) ∧
  ∀ (op : RotOp) (r : Reg8), UpdatesReg (Instr.rotReg op r) [0xCB, opByte 0 op.code r.code] 8 r
    (fun v f0 v' f => ∃ co, RotEffect op v f0.c v' co ∧ RotFlags (v' = 0) co f)

/-- The CB rotates and shifts of the byte at HL (44 R245-R259). -/
def Obligations.MemoryRotates : Prop :=
  ∀ (op : RotOp), UpdatesMemory (Instr.rotMem op) [0xCB, opByte 0 op.code 6] 16
    (fun v f0 v' f => ∃ co, RotEffect op v f0.c v' co ∧ RotFlags (v' = 0) co f)

/-- BIT b: Z is the complement of the bit, N 0, Hf 1, Cy kept; the operand is only read (45 R260, R261). -/
def Obligations.BitTests : Prop :=
  ∀ (b : Fin 8),
    (∀ r : Reg8, UpdatesReg (Instr.bitReg b r) [0xCB, opByte 1 b r.code] 8 r
      (fun v f0 v' f => v' = v ∧ f = { z := !bitOf v b, n := false, h := true, c := f0.c })) ∧
    encode (Instr.bitMem b) = [0xCB, opByte 1 b 6] ∧
    ∀ s, ∃ t, Completes (Instr.bitMem b) s t 2 12 ∧
      t.cpu.f = { z := !bitOf (s.read8 s.hl) b, n := false, h := true, c := s.cpu.f.c } ∧
      t.cpu.sp = s.cpu.sp ∧ QuietFrame [] s t

/-- RES b and SET b: bit b is cleared or set, the other bits and the flags are kept; the byte at HL is written
back even where the bit does not change (45 R262-R265). -/
def Obligations.BitWrites : Prop :=
  ∀ (b : Fin 8),
    let clears (v : Byte) (f0 : Flags) (v' : Byte) (f : Flags) : Prop :=
      f = f0 ∧ ∀ j < 8, bitOf v' j = if j = (b : Nat) then false else bitOf v j
    let sets (v : Byte) (f0 : Flags) (v' : Byte) (f : Flags) : Prop :=
      f = f0 ∧ ∀ j < 8, bitOf v' j = if j = (b : Nat) then true else bitOf v j
    (∀ r : Reg8, UpdatesReg (Instr.resReg b r) [0xCB, opByte 2 b r.code] 8 r clears ∧
      UpdatesReg (Instr.setReg b r) [0xCB, opByte 3 b r.code] 8 r sets) ∧
    UpdatesMemory (Instr.resMem b) [0xCB, opByte 2 b 6] 16 clears ∧
    UpdatesMemory (Instr.setMem b) [0xCB, opByte 3 b 6] 16 sets

/-! ### Control transfer and CPU control (46, 47) -/

/-- JP nn, JP cc,nn, JP HL, JR e and JR cc,e (46 R271-R275). -/
def Obligations.JumpsGoToTheirTargets : Prop :=
  (∀ nn : Word, Jumps (.jp nn) [0xC3, loByte nn, hiByte nn] (fun _ => true) (fun _ => nn) 16 16) ∧
  (∀ (cc : Cond) (nn : Word), Jumps (Instr.jpCond cc nn) [opByte 3 cc.code 2, loByte nn, hiByte nn]
    (fun s => s.cpu.f.holds cc) (fun _ => nn) 16 12) ∧
  Jumps .jpHL [0xE9] (fun _ => true) (·.hl) 4 4 ∧
  (∀ e : Byte, Jumps (.jr e) [0x18, e] (fun _ => true)
    (fun s => BitVec.ofInt 16 ((s.nextPc 2).toNat + e.toInt)) 12 12) ∧
  ∀ (cc : Cond) (e : Byte), Jumps (Instr.jrCond cc e) [opByte 0 (4 + cc.code) 0, e]
    (fun s => s.cpu.f.holds cc) (fun s => BitVec.ofInt 16 ((s.nextPc 2).toNat + e.toInt)) 12 8

/-- CALL nn, CALL cc,nn and RST t: the address of the next instruction is pushed (46 R276, R277, R281). -/
def Obligations.CallsPushTheReturnAddress : Prop :=
  (∀ nn : Word, Calls (.call nn) [0xCD, loByte nn, hiByte nn] (fun _ => true) nn 24 24) ∧
  (∀ (cc : Cond) (nn : Word), Calls (Instr.callCond cc nn) [opByte 3 cc.code 4, loByte nn, hiByte nn]
    (fun s => s.cpu.f.holds cc) nn 24 12) ∧
  ∀ y : Fin 8, Calls (Instr.rst y) [opByte 3 y 7] (fun _ => true) (BitVec.ofNat 16 (8 * y)) 16 16

/-- RET, RET cc and RETI: PC is popped; RETI sets IME at once (46 R278, R279, R280). -/
def Obligations.ReturnsPopTheirAddress : Prop :=
  Returns .ret [0xC9] (fun _ => true) 16 16 ∧
  (∀ cc : Cond, Returns (Instr.retCond cc) [opByte 3 cc.code 0] (fun s => s.cpu.f.holds cc) 20 8) ∧
  encode .reti = [0xD9] ∧
  ∀ s : State, ∃ t, exec .reti s = .next t ∧ t.cpu.pc = s.stackTop ∧ t.cost = 16 ∧
    t.cpu.sp = s.cpu.sp + 2 ∧ t.cpu.ime = true ∧ t.cpu.eiPending = false ∧ t.cpu.run = s.cpu.run ∧
    t.cpu.haltBug = false ∧ t.cpu.f = s.cpu.f ∧ RegsKept [] s t ∧ UnitsKept s t ∧ MemoryKept s t

/-- NOP, DI, EI and STOP (47 R290, R292, R293, R294). STOP's reset of the divider is that of a write to DIV. -/
def Obligations.CpuControl : Prop :=
  encode .nop = [0x00] ∧ encode .di = [0xF3] ∧ encode .ei = [0xFB] ∧
  (∀ b : Byte, decode [0x10, b] = .ok (.stop, [])) ∧
  ∀ s : State,
    (∃ t, Completes .nop s t 1 4 ∧ t.cpu.f = s.cpu.f ∧ t.cpu.sp = s.cpu.sp ∧ QuietFrame [] s t) ∧
    (∃ t, Completes .di s t 1 4 ∧ t.cpu.ime = false ∧ t.cpu.eiPending = false ∧ t.cpu.f = s.cpu.f ∧
      t.cpu.sp = s.cpu.sp ∧ t.cpu.run = s.cpu.run ∧ t.cpu.haltBug = false ∧ RegsKept [] s t ∧
      UnitsKept s t ∧ MemoryKept s t) ∧
    (∃ t, Completes .ei s t 1 4 ∧ t.cpu.ime = s.cpu.ime ∧ t.cpu.eiPending = true ∧ t.cpu.f = s.cpu.f ∧
      t.cpu.sp = s.cpu.sp ∧ t.cpu.run = s.cpu.run ∧ t.cpu.haltBug = false ∧ RegsKept [] s t ∧
      UnitsKept s t ∧ MemoryKept s t) ∧
    ∃ t, Completes .stop s t 2 4 ∧ t.cpu.run = .stopped ∧ t.timer.div = 0 ∧
      UnitsKept (s.write8 0xFF04 0) t ∧ t.cpu.f = s.cpu.f ∧ t.cpu.sp = s.cpu.sp ∧
      t.cpu.ime = s.cpu.ime ∧ t.cpu.eiPending = s.cpu.eiPending ∧ t.cpu.haltBug = false ∧
      RegsKept [] s t ∧ ∀ b, b ≠ 0xFF04 → b ≠ 0xFF05 → t.read8 b = s.read8 b
end

