-- ==== Sys2Proof/Laws/State.lean ====
section
/-! SUPPORT. One lemma per field per update of State, true by rfl, and the register file's read and write
laws. -/

namespace Sys2Proof.Machine

@[simp] theorem State.setCpu_cpu (s : State) (x : Cpu) : (s.setCpu x).cpu = x := rfl
@[simp] theorem State.setCpu_timer (s : State) (x : Cpu) : (s.setCpu x).timer = s.timer := rfl
@[simp] theorem State.setCpu_ppu (s : State) (x : Cpu) : (s.setCpu x).ppu = s.ppu := rfl
@[simp] theorem State.setCpu_cart (s : State) (x : Cpu) : (s.setCpu x).cart = s.cart := rfl
@[simp] theorem State.setCpu_pad (s : State) (x : Cpu) : (s.setCpu x).pad = s.pad := rfl
@[simp] theorem State.setCpu_serial (s : State) (x : Cpu) : (s.setCpu x).serial = s.serial := rfl
@[simp] theorem State.setCpu_irq (s : State) (x : Cpu) : (s.setCpu x).irq = s.irq := rfl
@[simp] theorem State.setCpu_mem (s : State) (x : Cpu) : (s.setCpu x).mem = s.mem := rfl
@[simp] theorem State.setCpu_params (s : State) (x : Cpu) : (s.setCpu x).params = s.params := rfl
@[simp] theorem State.setCpu_cost (s : State) (x : Cpu) : (s.setCpu x).cost = s.cost := rfl

@[simp] theorem State.setTimer_cpu (s : State) (x : Timer) : (s.setTimer x).cpu = s.cpu := rfl
@[simp] theorem State.setTimer_timer (s : State) (x : Timer) : (s.setTimer x).timer = x := rfl
@[simp] theorem State.setTimer_ppu (s : State) (x : Timer) : (s.setTimer x).ppu = s.ppu := rfl
@[simp] theorem State.setTimer_cart (s : State) (x : Timer) : (s.setTimer x).cart = s.cart := rfl
@[simp] theorem State.setTimer_pad (s : State) (x : Timer) : (s.setTimer x).pad = s.pad := rfl
@[simp] theorem State.setTimer_serial (s : State) (x : Timer) : (s.setTimer x).serial = s.serial := rfl
@[simp] theorem State.setTimer_irq (s : State) (x : Timer) : (s.setTimer x).irq = s.irq := rfl
@[simp] theorem State.setTimer_mem (s : State) (x : Timer) : (s.setTimer x).mem = s.mem := rfl
@[simp] theorem State.setTimer_params (s : State) (x : Timer) : (s.setTimer x).params = s.params := rfl
@[simp] theorem State.setTimer_cost (s : State) (x : Timer) : (s.setTimer x).cost = s.cost := rfl

@[simp] theorem State.setPpu_cpu (s : State) (x : Ppu) : (s.setPpu x).cpu = s.cpu := rfl
@[simp] theorem State.setPpu_timer (s : State) (x : Ppu) : (s.setPpu x).timer = s.timer := rfl
@[simp] theorem State.setPpu_ppu (s : State) (x : Ppu) : (s.setPpu x).ppu = x := rfl
@[simp] theorem State.setPpu_cart (s : State) (x : Ppu) : (s.setPpu x).cart = s.cart := rfl
@[simp] theorem State.setPpu_pad (s : State) (x : Ppu) : (s.setPpu x).pad = s.pad := rfl
@[simp] theorem State.setPpu_serial (s : State) (x : Ppu) : (s.setPpu x).serial = s.serial := rfl
@[simp] theorem State.setPpu_irq (s : State) (x : Ppu) : (s.setPpu x).irq = s.irq := rfl
@[simp] theorem State.setPpu_mem (s : State) (x : Ppu) : (s.setPpu x).mem = s.mem := rfl
@[simp] theorem State.setPpu_params (s : State) (x : Ppu) : (s.setPpu x).params = s.params := rfl
@[simp] theorem State.setPpu_cost (s : State) (x : Ppu) : (s.setPpu x).cost = s.cost := rfl

@[simp] theorem State.setCart_cpu (s : State) (x : Cart) : (s.setCart x).cpu = s.cpu := rfl
@[simp] theorem State.setCart_timer (s : State) (x : Cart) : (s.setCart x).timer = s.timer := rfl
@[simp] theorem State.setCart_ppu (s : State) (x : Cart) : (s.setCart x).ppu = s.ppu := rfl
@[simp] theorem State.setCart_cart (s : State) (x : Cart) : (s.setCart x).cart = x := rfl
@[simp] theorem State.setCart_pad (s : State) (x : Cart) : (s.setCart x).pad = s.pad := rfl
@[simp] theorem State.setCart_serial (s : State) (x : Cart) : (s.setCart x).serial = s.serial := rfl
@[simp] theorem State.setCart_irq (s : State) (x : Cart) : (s.setCart x).irq = s.irq := rfl
@[simp] theorem State.setCart_mem (s : State) (x : Cart) : (s.setCart x).mem = s.mem := rfl
@[simp] theorem State.setCart_params (s : State) (x : Cart) : (s.setCart x).params = s.params := rfl
@[simp] theorem State.setCart_cost (s : State) (x : Cart) : (s.setCart x).cost = s.cost := rfl

@[simp] theorem State.setPad_cpu (s : State) (x : Joypad) : (s.setPad x).cpu = s.cpu := rfl
@[simp] theorem State.setPad_timer (s : State) (x : Joypad) : (s.setPad x).timer = s.timer := rfl
@[simp] theorem State.setPad_ppu (s : State) (x : Joypad) : (s.setPad x).ppu = s.ppu := rfl
@[simp] theorem State.setPad_cart (s : State) (x : Joypad) : (s.setPad x).cart = s.cart := rfl
@[simp] theorem State.setPad_pad (s : State) (x : Joypad) : (s.setPad x).pad = x := rfl
@[simp] theorem State.setPad_serial (s : State) (x : Joypad) : (s.setPad x).serial = s.serial := rfl
@[simp] theorem State.setPad_irq (s : State) (x : Joypad) : (s.setPad x).irq = s.irq := rfl
@[simp] theorem State.setPad_mem (s : State) (x : Joypad) : (s.setPad x).mem = s.mem := rfl
@[simp] theorem State.setPad_params (s : State) (x : Joypad) : (s.setPad x).params = s.params := rfl
@[simp] theorem State.setPad_cost (s : State) (x : Joypad) : (s.setPad x).cost = s.cost := rfl

@[simp] theorem State.setSerial_cpu (s : State) (x : Serial) : (s.setSerial x).cpu = s.cpu := rfl
@[simp] theorem State.setSerial_timer (s : State) (x : Serial) : (s.setSerial x).timer = s.timer := rfl
@[simp] theorem State.setSerial_ppu (s : State) (x : Serial) : (s.setSerial x).ppu = s.ppu := rfl
@[simp] theorem State.setSerial_cart (s : State) (x : Serial) : (s.setSerial x).cart = s.cart := rfl
@[simp] theorem State.setSerial_pad (s : State) (x : Serial) : (s.setSerial x).pad = s.pad := rfl
@[simp] theorem State.setSerial_serial (s : State) (x : Serial) : (s.setSerial x).serial = x := rfl
@[simp] theorem State.setSerial_irq (s : State) (x : Serial) : (s.setSerial x).irq = s.irq := rfl
@[simp] theorem State.setSerial_mem (s : State) (x : Serial) : (s.setSerial x).mem = s.mem := rfl
@[simp] theorem State.setSerial_params (s : State) (x : Serial) : (s.setSerial x).params = s.params := rfl
@[simp] theorem State.setSerial_cost (s : State) (x : Serial) : (s.setSerial x).cost = s.cost := rfl

@[simp] theorem State.setIrq_cpu (s : State) (x : Irq) : (s.setIrq x).cpu = s.cpu := rfl
@[simp] theorem State.setIrq_timer (s : State) (x : Irq) : (s.setIrq x).timer = s.timer := rfl
@[simp] theorem State.setIrq_ppu (s : State) (x : Irq) : (s.setIrq x).ppu = s.ppu := rfl
@[simp] theorem State.setIrq_cart (s : State) (x : Irq) : (s.setIrq x).cart = s.cart := rfl
@[simp] theorem State.setIrq_pad (s : State) (x : Irq) : (s.setIrq x).pad = s.pad := rfl
@[simp] theorem State.setIrq_serial (s : State) (x : Irq) : (s.setIrq x).serial = s.serial := rfl
@[simp] theorem State.setIrq_irq (s : State) (x : Irq) : (s.setIrq x).irq = x := rfl
@[simp] theorem State.setIrq_mem (s : State) (x : Irq) : (s.setIrq x).mem = s.mem := rfl
@[simp] theorem State.setIrq_params (s : State) (x : Irq) : (s.setIrq x).params = s.params := rfl
@[simp] theorem State.setIrq_cost (s : State) (x : Irq) : (s.setIrq x).cost = s.cost := rfl

@[simp] theorem State.setMem_cpu (s : State) (x : Mem) : (s.setMem x).cpu = s.cpu := rfl
@[simp] theorem State.setMem_timer (s : State) (x : Mem) : (s.setMem x).timer = s.timer := rfl
@[simp] theorem State.setMem_ppu (s : State) (x : Mem) : (s.setMem x).ppu = s.ppu := rfl
@[simp] theorem State.setMem_cart (s : State) (x : Mem) : (s.setMem x).cart = s.cart := rfl
@[simp] theorem State.setMem_pad (s : State) (x : Mem) : (s.setMem x).pad = s.pad := rfl
@[simp] theorem State.setMem_serial (s : State) (x : Mem) : (s.setMem x).serial = s.serial := rfl
@[simp] theorem State.setMem_irq (s : State) (x : Mem) : (s.setMem x).irq = s.irq := rfl
@[simp] theorem State.setMem_mem (s : State) (x : Mem) : (s.setMem x).mem = x := rfl
@[simp] theorem State.setMem_params (s : State) (x : Mem) : (s.setMem x).params = s.params := rfl
@[simp] theorem State.setMem_cost (s : State) (x : Mem) : (s.setMem x).cost = s.cost := rfl

@[simp] theorem State.setCost_cpu (s : State) (x : Nat) : (s.setCost x).cpu = s.cpu := rfl
@[simp] theorem State.setCost_timer (s : State) (x : Nat) : (s.setCost x).timer = s.timer := rfl
@[simp] theorem State.setCost_ppu (s : State) (x : Nat) : (s.setCost x).ppu = s.ppu := rfl
@[simp] theorem State.setCost_cart (s : State) (x : Nat) : (s.setCost x).cart = s.cart := rfl
@[simp] theorem State.setCost_pad (s : State) (x : Nat) : (s.setCost x).pad = s.pad := rfl
@[simp] theorem State.setCost_serial (s : State) (x : Nat) : (s.setCost x).serial = s.serial := rfl
@[simp] theorem State.setCost_irq (s : State) (x : Nat) : (s.setCost x).irq = s.irq := rfl
@[simp] theorem State.setCost_mem (s : State) (x : Nat) : (s.setCost x).mem = s.mem := rfl
@[simp] theorem State.setCost_params (s : State) (x : Nat) : (s.setCost x).params = s.params := rfl
@[simp] theorem State.setCost_cost (s : State) (x : Nat) : (s.setCost x).cost = x := rfl

@[simp] theorem State.setReg_cpu (s : State) (r : Reg8) (v : Byte) : (s.setReg r v).cpu = s.cpu.set r v := rfl
@[simp] theorem State.setReg_timer (s : State) (r : Reg8) (v : Byte) : (s.setReg r v).timer = s.timer := rfl
@[simp] theorem State.setReg_ppu (s : State) (r : Reg8) (v : Byte) : (s.setReg r v).ppu = s.ppu := rfl
@[simp] theorem State.setReg_cart (s : State) (r : Reg8) (v : Byte) : (s.setReg r v).cart = s.cart := rfl
@[simp] theorem State.setReg_pad (s : State) (r : Reg8) (v : Byte) : (s.setReg r v).pad = s.pad := rfl
@[simp] theorem State.setReg_serial (s : State) (r : Reg8) (v : Byte) : (s.setReg r v).serial = s.serial := rfl
@[simp] theorem State.setReg_irq (s : State) (r : Reg8) (v : Byte) : (s.setReg r v).irq = s.irq := rfl
@[simp] theorem State.setReg_mem (s : State) (r : Reg8) (v : Byte) : (s.setReg r v).mem = s.mem := rfl
@[simp] theorem State.setReg_params (s : State) (r : Reg8) (v : Byte) : (s.setReg r v).params = s.params := rfl
@[simp] theorem State.setReg_cost (s : State) (r : Reg8) (v : Byte) : (s.setReg r v).cost = s.cost := rfl

@[simp] theorem State.setPair_cpu (s : State) (p : Pair) (v : Word) : (s.setPair p v).cpu = s.cpu.setPair p v := rfl
@[simp] theorem State.setPair_timer (s : State) (p : Pair) (v : Word) : (s.setPair p v).timer = s.timer := rfl
@[simp] theorem State.setPair_ppu (s : State) (p : Pair) (v : Word) : (s.setPair p v).ppu = s.ppu := rfl
@[simp] theorem State.setPair_cart (s : State) (p : Pair) (v : Word) : (s.setPair p v).cart = s.cart := rfl
@[simp] theorem State.setPair_pad (s : State) (p : Pair) (v : Word) : (s.setPair p v).pad = s.pad := rfl
@[simp] theorem State.setPair_serial (s : State) (p : Pair) (v : Word) : (s.setPair p v).serial = s.serial := rfl
@[simp] theorem State.setPair_irq (s : State) (p : Pair) (v : Word) : (s.setPair p v).irq = s.irq := rfl
@[simp] theorem State.setPair_mem (s : State) (p : Pair) (v : Word) : (s.setPair p v).mem = s.mem := rfl
@[simp] theorem State.setPair_params (s : State) (p : Pair) (v : Word) : (s.setPair p v).params = s.params := rfl
@[simp] theorem State.setPair_cost (s : State) (p : Pair) (v : Word) : (s.setPair p v).cost = s.cost := rfl

@[simp] theorem State.setFlags_cpu (s : State) (f : Flags) : (s.setFlags f).cpu = { s.cpu with f := f } := rfl
@[simp] theorem State.setFlags_timer (s : State) (f : Flags) : (s.setFlags f).timer = s.timer := rfl
@[simp] theorem State.setFlags_ppu (s : State) (f : Flags) : (s.setFlags f).ppu = s.ppu := rfl
@[simp] theorem State.setFlags_cart (s : State) (f : Flags) : (s.setFlags f).cart = s.cart := rfl
@[simp] theorem State.setFlags_pad (s : State) (f : Flags) : (s.setFlags f).pad = s.pad := rfl
@[simp] theorem State.setFlags_serial (s : State) (f : Flags) : (s.setFlags f).serial = s.serial := rfl
@[simp] theorem State.setFlags_irq (s : State) (f : Flags) : (s.setFlags f).irq = s.irq := rfl
@[simp] theorem State.setFlags_mem (s : State) (f : Flags) : (s.setFlags f).mem = s.mem := rfl
@[simp] theorem State.setFlags_params (s : State) (f : Flags) : (s.setFlags f).params = s.params := rfl
@[simp] theorem State.setFlags_cost (s : State) (f : Flags) : (s.setFlags f).cost = s.cost := rfl

@[simp] theorem State.setPc_cpu (s : State) (v : Word) : (s.setPc v).cpu = { s.cpu with pc := v } := rfl
@[simp] theorem State.setPc_timer (s : State) (v : Word) : (s.setPc v).timer = s.timer := rfl
@[simp] theorem State.setPc_ppu (s : State) (v : Word) : (s.setPc v).ppu = s.ppu := rfl
@[simp] theorem State.setPc_cart (s : State) (v : Word) : (s.setPc v).cart = s.cart := rfl
@[simp] theorem State.setPc_pad (s : State) (v : Word) : (s.setPc v).pad = s.pad := rfl
@[simp] theorem State.setPc_serial (s : State) (v : Word) : (s.setPc v).serial = s.serial := rfl
@[simp] theorem State.setPc_irq (s : State) (v : Word) : (s.setPc v).irq = s.irq := rfl
@[simp] theorem State.setPc_mem (s : State) (v : Word) : (s.setPc v).mem = s.mem := rfl
@[simp] theorem State.setPc_params (s : State) (v : Word) : (s.setPc v).params = s.params := rfl
@[simp] theorem State.setPc_cost (s : State) (v : Word) : (s.setPc v).cost = s.cost := rfl

@[simp] theorem State.setSp_cpu (s : State) (v : Word) : (s.setSp v).cpu = { s.cpu with sp := v } := rfl
@[simp] theorem State.setSp_timer (s : State) (v : Word) : (s.setSp v).timer = s.timer := rfl
@[simp] theorem State.setSp_ppu (s : State) (v : Word) : (s.setSp v).ppu = s.ppu := rfl
@[simp] theorem State.setSp_cart (s : State) (v : Word) : (s.setSp v).cart = s.cart := rfl
@[simp] theorem State.setSp_pad (s : State) (v : Word) : (s.setSp v).pad = s.pad := rfl
@[simp] theorem State.setSp_serial (s : State) (v : Word) : (s.setSp v).serial = s.serial := rfl
@[simp] theorem State.setSp_irq (s : State) (v : Word) : (s.setSp v).irq = s.irq := rfl
@[simp] theorem State.setSp_mem (s : State) (v : Word) : (s.setSp v).mem = s.mem := rfl
@[simp] theorem State.setSp_params (s : State) (v : Word) : (s.setSp v).params = s.params := rfl
@[simp] theorem State.setSp_cost (s : State) (v : Word) : (s.setSp v).cost = s.cost := rfl

@[simp] theorem State.setRun_cpu (s : State) (r : Run) : (s.setRun r).cpu = { s.cpu with run := r } := rfl
@[simp] theorem State.setRun_timer (s : State) (r : Run) : (s.setRun r).timer = s.timer := rfl
@[simp] theorem State.setRun_ppu (s : State) (r : Run) : (s.setRun r).ppu = s.ppu := rfl
@[simp] theorem State.setRun_cart (s : State) (r : Run) : (s.setRun r).cart = s.cart := rfl
@[simp] theorem State.setRun_pad (s : State) (r : Run) : (s.setRun r).pad = s.pad := rfl
@[simp] theorem State.setRun_serial (s : State) (r : Run) : (s.setRun r).serial = s.serial := rfl
@[simp] theorem State.setRun_irq (s : State) (r : Run) : (s.setRun r).irq = s.irq := rfl
@[simp] theorem State.setRun_mem (s : State) (r : Run) : (s.setRun r).mem = s.mem := rfl
@[simp] theorem State.setRun_params (s : State) (r : Run) : (s.setRun r).params = s.params := rfl
@[simp] theorem State.setRun_cost (s : State) (r : Run) : (s.setRun r).cost = s.cost := rfl

@[simp] theorem State.charge_cpu (s : State) (n : Nat) : (s.charge n).cpu = s.cpu := rfl
@[simp] theorem State.charge_timer (s : State) (n : Nat) : (s.charge n).timer = s.timer := rfl
@[simp] theorem State.charge_ppu (s : State) (n : Nat) : (s.charge n).ppu = s.ppu := rfl
@[simp] theorem State.charge_cart (s : State) (n : Nat) : (s.charge n).cart = s.cart := rfl
@[simp] theorem State.charge_pad (s : State) (n : Nat) : (s.charge n).pad = s.pad := rfl
@[simp] theorem State.charge_serial (s : State) (n : Nat) : (s.charge n).serial = s.serial := rfl
@[simp] theorem State.charge_irq (s : State) (n : Nat) : (s.charge n).irq = s.irq := rfl
@[simp] theorem State.charge_mem (s : State) (n : Nat) : (s.charge n).mem = s.mem := rfl
@[simp] theorem State.charge_params (s : State) (n : Nat) : (s.charge n).params = s.params := rfl
@[simp] theorem State.charge_cost (s : State) (n : Nat) : (s.charge n).cost = s.cost + n := rfl

@[simp] theorem State.advance_timer (s : State) (n : Nat) : (s.advance n).timer = s.timer := rfl
@[simp] theorem State.advance_ppu (s : State) (n : Nat) : (s.advance n).ppu = s.ppu := rfl
@[simp] theorem State.advance_cart (s : State) (n : Nat) : (s.advance n).cart = s.cart := rfl
@[simp] theorem State.advance_pad (s : State) (n : Nat) : (s.advance n).pad = s.pad := rfl
@[simp] theorem State.advance_serial (s : State) (n : Nat) : (s.advance n).serial = s.serial := rfl
@[simp] theorem State.advance_irq (s : State) (n : Nat) : (s.advance n).irq = s.irq := rfl
@[simp] theorem State.advance_mem (s : State) (n : Nat) : (s.advance n).mem = s.mem := rfl
@[simp] theorem State.advance_params (s : State) (n : Nat) : (s.advance n).params = s.params := rfl
theorem State.advance_cpu (s : State) (n : Nat) :
    (s.advance n).cpu =
      { s.cpu with pc := s.cpu.pcAfterOpcode + BitVec.ofNat 16 (n - 1), haltBug := false } := rfl

@[simp] theorem State.requestBits_cpu (s : State) (b : BitVec 5) : (s.requestBits b).cpu = s.cpu := rfl
@[simp] theorem State.requestBits_timer (s : State) (b : BitVec 5) : (s.requestBits b).timer = s.timer := rfl
@[simp] theorem State.requestBits_ppu (s : State) (b : BitVec 5) : (s.requestBits b).ppu = s.ppu := rfl
@[simp] theorem State.requestBits_cart (s : State) (b : BitVec 5) : (s.requestBits b).cart = s.cart := rfl
@[simp] theorem State.requestBits_pad (s : State) (b : BitVec 5) : (s.requestBits b).pad = s.pad := rfl
@[simp] theorem State.requestBits_serial (s : State) (b : BitVec 5) : (s.requestBits b).serial = s.serial := rfl
@[simp] theorem State.requestBits_irq (s : State) (b : BitVec 5) : (s.requestBits b).irq = { s.irq with flags := s.irq.flags ||| b } := rfl
@[simp] theorem State.requestBits_mem (s : State) (b : BitVec 5) : (s.requestBits b).mem = s.mem := rfl
@[simp] theorem State.requestBits_params (s : State) (b : BitVec 5) : (s.requestBits b).params = s.params := rfl
@[simp] theorem State.requestBits_cost (s : State) (b : BitVec 5) : (s.requestBits b).cost = s.cost := rfl

@[simp] theorem State.requestIf_cpu (s : State) (c : Bool) (k : Nat) : (s.requestIf c k).cpu = s.cpu := by
  cases c <;> rfl
@[simp] theorem State.requestIf_timer (s : State) (c : Bool) (k : Nat) : (s.requestIf c k).timer = s.timer := by
  cases c <;> rfl
@[simp] theorem State.requestIf_ppu (s : State) (c : Bool) (k : Nat) : (s.requestIf c k).ppu = s.ppu := by
  cases c <;> rfl
@[simp] theorem State.requestIf_cart (s : State) (c : Bool) (k : Nat) : (s.requestIf c k).cart = s.cart := by
  cases c <;> rfl
@[simp] theorem State.requestIf_pad (s : State) (c : Bool) (k : Nat) : (s.requestIf c k).pad = s.pad := by
  cases c <;> rfl
@[simp] theorem State.requestIf_serial (s : State) (c : Bool) (k : Nat) : (s.requestIf c k).serial = s.serial := by
  cases c <;> rfl
@[simp] theorem State.requestIf_mem (s : State) (c : Bool) (k : Nat) : (s.requestIf c k).mem = s.mem := by
  cases c <;> rfl
@[simp] theorem State.requestIf_params (s : State) (c : Bool) (k : Nat) : (s.requestIf c k).params = s.params := by
  cases c <;> rfl
@[simp] theorem State.requestIf_cost (s : State) (c : Bool) (k : Nat) : (s.requestIf c k).cost = s.cost := by
  cases c <;> rfl

/-! ### The register file -/

@[simp] theorem Cpu.get_set_same (k : Cpu) (r : Reg8) (v : Byte) : (k.set r v).get r = v := by
  cases r <;> rfl

theorem Cpu.get_set_other (k : Cpu) {r r' : Reg8} (v : Byte) (h : r' ≠ r) :
    (k.set r v).get r' = k.get r' := by
  cases r <;> cases r' <;> first | rfl | exact absurd rfl h

/-- A register write leaves F, SP, PC and the control latches. -/
theorem Cpu.set_kept (k : Cpu) (r : Reg8) (v : Byte) :
    (k.set r v).f = k.f ∧ (k.set r v).sp = k.sp ∧ (k.set r v).pc = k.pc ∧ (k.set r v).ime = k.ime ∧
      (k.set r v).eiPending = k.eiPending ∧ (k.set r v).haltBug = k.haltBug ∧
      (k.set r v).run = k.run := by
  cases r <;> exact ⟨rfl, rfl, rfl, rfl, rfl, rfl, rfl⟩

@[simp] theorem Cpu.set_f (k : Cpu) (r : Reg8) (v : Byte) : (k.set r v).f = k.f := by
  cases r <;> rfl
@[simp] theorem Cpu.set_sp (k : Cpu) (r : Reg8) (v : Byte) : (k.set r v).sp = k.sp := by
  cases r <;> rfl
@[simp] theorem Cpu.set_pc (k : Cpu) (r : Reg8) (v : Byte) : (k.set r v).pc = k.pc := by
  cases r <;> rfl
@[simp] theorem Cpu.set_ime (k : Cpu) (r : Reg8) (v : Byte) : (k.set r v).ime = k.ime := by
  cases r <;> rfl
@[simp] theorem Cpu.set_eiPending (k : Cpu) (r : Reg8) (v : Byte) : (k.set r v).eiPending = k.eiPending := by
  cases r <;> rfl
@[simp] theorem Cpu.set_haltBug (k : Cpu) (r : Reg8) (v : Byte) : (k.set r v).haltBug = k.haltBug := by
  cases r <;> rfl
@[simp] theorem Cpu.set_run (k : Cpu) (r : Reg8) (v : Byte) : (k.set r v).run = k.run := by
  cases r <;> rfl
@[simp] theorem Cpu.setPair_f (k : Cpu) (p : Pair) (v : Word) : (k.setPair p v).f = k.f := by
  cases p <;> rfl
@[simp] theorem Cpu.setPair_pc (k : Cpu) (p : Pair) (v : Word) : (k.setPair p v).pc = k.pc := by
  cases p <;> rfl
@[simp] theorem Cpu.setPair_ime (k : Cpu) (p : Pair) (v : Word) : (k.setPair p v).ime = k.ime := by
  cases p <;> rfl
@[simp] theorem Cpu.setPair_eiPending (k : Cpu) (p : Pair) (v : Word) : (k.setPair p v).eiPending = k.eiPending := by
  cases p <;> rfl
@[simp] theorem Cpu.setPair_haltBug (k : Cpu) (p : Pair) (v : Word) : (k.setPair p v).haltBug = k.haltBug := by
  cases p <;> rfl
@[simp] theorem Cpu.setPair_run (k : Cpu) (p : Pair) (v : Word) : (k.setPair p v).run = k.run := by
  cases p <;> rfl
@[simp] theorem Cpu.setPair_a (k : Cpu) (p : Pair) (v : Word) : (k.setPair p v).a = k.a := by
  cases p <;> rfl
@[simp] theorem Cpu.setStackPair_sp (k : Cpu) (p : StackPair) (v : Word) :
    (k.setStackPair p v).sp = k.sp := by
  cases p <;> rfl
@[simp] theorem Cpu.setStackPair_pc (k : Cpu) (p : StackPair) (v : Word) :
    (k.setStackPair p v).pc = k.pc := by
  cases p <;> rfl
@[simp] theorem Cpu.setStackPair_ime (k : Cpu) (p : StackPair) (v : Word) :
    (k.setStackPair p v).ime = k.ime := by
  cases p <;> rfl
@[simp] theorem Cpu.setStackPair_eiPending (k : Cpu) (p : StackPair) (v : Word) :
    (k.setStackPair p v).eiPending = k.eiPending := by
  cases p <;> rfl
@[simp] theorem Cpu.setStackPair_haltBug (k : Cpu) (p : StackPair) (v : Word) :
    (k.setStackPair p v).haltBug = k.haltBug := by
  cases p <;> rfl
@[simp] theorem Cpu.setStackPair_run (k : Cpu) (p : StackPair) (v : Word) :
    (k.setStackPair p v).run = k.run := by
  cases p <;> rfl

/-- The two halves of a pair are the pair (00 R8). -/
@[simp] theorem pair_hi_lo (w : Word) : pair (hiByte w) (loByte w) = w := by
  unfold pair hiByte loByte
  apply BitVec.eq_of_getLsbD_eq
  intro i hi
  rw [BitVec.getLsbD_append]
  split
  · simp_all
  · simp only [BitVec.getLsbD_setWidth, BitVec.getLsbD_ushiftRight]
    rw [show 8 + (i - 8) = i by omega]
    simp; omega

@[simp] theorem hi_pair (h l : Byte) : hiByte (pair h l) = h := by
  unfold pair hiByte
  apply BitVec.eq_of_getLsbD_eq
  intro i hi
  simp only [BitVec.getLsbD_setWidth, BitVec.getLsbD_ushiftRight, BitVec.getLsbD_append]
  simp [hi]

@[simp] theorem lo_pair (h l : Byte) : loByte (pair h l) = l := by
  unfold pair loByte
  apply BitVec.eq_of_getLsbD_eq
  intro i hi
  simp only [BitVec.getLsbD_setWidth, BitVec.getLsbD_append]
  simp [hi]

@[simp] theorem Cpu.getPair_setPair_same (k : Cpu) (p : Pair) (v : Word) : (k.setPair p v).getPair p = v := by
  cases p <;> simp [Cpu.setPair, Cpu.getPair]

/-- F written with a byte and read back has bits 3-0 cleared (10 R21). -/
theorem Flags.toByte_ofByte : ∀ v : Byte, (Flags.ofByte v).toByte = v &&& 0xF0 := by
  decide +kernel

/-- F read as a byte and written back is the same flags. -/
@[simp] theorem Flags.ofByte_toByte (f : Flags) : Flags.ofByte f.toByte = f := by
  obtain ⟨z, n, h, c⟩ := f
  cases z <;> cases n <;> cases h <;> cases c <;> rfl

end Sys2Proof.Machine
end

