-- ==== Sys2Proof/Laws/Store.lean ====
section
/-! SUPPORT. The memory laws: a read after a write, a write leaves every other cell alone, and every memory
operation keeps the canonical form. No law but the last kind needs the canonical form. -/

namespace Sys2Proof.Machine

variable {w : Nat}

@[simp] theorem Store.get_nil (a : Nat) : Store.get ([] : Store w) a = 0 := rfl

theorem Store.get_erase_same (m : Store w) (a : Nat) : Store.get (Store.erase m a) a = 0 := by
  induction m with
  | nil => rfl
  | cons c m ih =>
    obtain ⟨k, x⟩ := c
    by_cases h : k = a <;> simp [Store.erase, Store.get, h, ih]

theorem Store.get_erase_other (m : Store w) {a b : Nat} (h : b ≠ a) :
    Store.get (Store.erase m a) b = Store.get m b := by
  induction m with
  | nil => rfl
  | cons c m ih =>
    obtain ⟨k, x⟩ := c
    by_cases hk : k = a
    · have : ¬ k = b := fun e => h (e ▸ hk)
      simp [Store.erase, Store.get, hk, ih, show ¬ a = b from fun e => h e.symm]
    · simp [Store.erase, Store.get, hk, ih]

theorem Store.get_insert_same (m : Store w) (a : Nat) (v : BitVec w) :
    Store.get (Store.insert m a v) a = v := by
  induction m with
  | nil => simp [Store.insert, Store.get]
  | cons c m ih =>
    obtain ⟨k, x⟩ := c
    unfold Store.insert
    split
    · simp [Store.get]
    · split
      · simp [Store.get]
      · simp [Store.get, *]

theorem Store.get_insert_other (m : Store w) {a b : Nat} (v : BitVec w) (h : b ≠ a) :
    Store.get (Store.insert m a v) b = Store.get m b := by
  have h' : ¬ a = b := fun e => h e.symm
  induction m with
  | nil => simp [Store.insert, Store.get, h']
  | cons c m ih =>
    obtain ⟨k, x⟩ := c
    unfold Store.insert
    split
    · simp [Store.get, h']
    · split
      · rename_i hk
        simp [Store.get, h', hk]
      · simp [Store.get, ih]

/-- A read after a write to the same cell gives the value written. -/
@[simp] theorem Store.get_set_same (m : Store w) (a : Nat) (v : BitVec w) : Store.get (Store.set m a v) a = v := by
  unfold Store.set
  split
  · next h => rw [Store.get_erase_same, h]; rfl
  · exact Store.get_insert_same m a v

/-- A write leaves every other cell alone. -/
theorem Store.get_set_other (m : Store w) {a b : Nat} (v : BitVec w) (h : b ≠ a) :
    Store.get (Store.set m a v) b = Store.get m b := by
  unfold Store.set
  split
  · exact Store.get_erase_other m h
  · exact Store.get_insert_other m v h

theorem Store.wfFrom_cons {lo n k : Nat} {x : BitVec w} {m : Store w} :
    Store.wfFrom lo n ((k, x) :: m) = true ↔
      lo ≤ k ∧ k < n ∧ x ≠ 0 ∧ Store.wfFrom (k + 1) n m = true := by
  show (decide (lo ≤ k) && decide (k < n) && decide (x ≠ 0) && Store.wfFrom (k + 1) n m) = true ↔ _
  rw [Bool.and_eq_true, Bool.and_eq_true, Bool.and_eq_true, decide_eq_true_iff, decide_eq_true_iff,
    decide_eq_true_iff, and_assoc, and_assoc]

/-- A canonical memory from a higher key on is canonical from a lower one. -/
theorem Store.wfFrom_mono {lo lo' n : Nat} (h : lo' ≤ lo) {m : Store w} (hm : Store.wfFrom lo n m = true) :
    Store.wfFrom lo' n m = true := by
  cases m with
  | nil => rfl
  | cons c m =>
    obtain ⟨k, x⟩ := c
    rw [Store.wfFrom_cons] at *
    exact ⟨by omega, hm.2⟩

theorem Store.wfFrom_erase {lo n : Nat} (a : Nat) {m : Store w} (hm : Store.wfFrom lo n m = true) :
    Store.wfFrom lo n (Store.erase m a) = true := by
  induction m generalizing lo with
  | nil => rfl
  | cons c m ih =>
    obtain ⟨k, x⟩ := c
    rw [Store.wfFrom_cons] at hm
    unfold Store.erase
    split
    · exact Store.wfFrom_mono (by omega) (ih hm.2.2.2)
    · rw [Store.wfFrom_cons]
      exact ⟨hm.1, hm.2.1, hm.2.2.1, ih hm.2.2.2⟩

theorem Store.wfFrom_insert {lo n a : Nat} {v : BitVec w} (hv : v ≠ 0) (hlo : lo ≤ a) (hn : a < n) {m : Store w}
    (hm : Store.wfFrom lo n m = true) : Store.wfFrom lo n (Store.insert m a v) = true := by
  induction m generalizing lo with
  | nil => exact Store.wfFrom_cons.mpr ⟨hlo, hn, hv, rfl⟩
  | cons c m ih =>
    obtain ⟨k, x⟩ := c
    have hm' := Store.wfFrom_cons.mp hm
    unfold Store.insert
    split
    · rw [Store.wfFrom_cons, Store.wfFrom_cons]
      exact ⟨hlo, hn, hv, by omega, hm'.2.1, hm'.2.2.1, hm'.2.2.2⟩
    · split
      · next hk =>
        subst hk
        rw [Store.wfFrom_cons]
        exact ⟨hm'.1, hn, hv, hm'.2.2.2⟩
      · rw [Store.wfFrom_cons]
        exact ⟨hm'.1, hm'.2.1, hm'.2.2.1, ih (by omega) hm'.2.2.2⟩

/-- A write keeps the canonical form. -/
theorem Store.wf_set {n a : Nat} (v : BitVec w) (ha : a < n) {m : Store w} (hm : Store.wf n m = true) :
    Store.wf n (Store.set m a v) = true := by
  unfold Store.set
  split
  · exact Store.wfFrom_erase a hm
  · next h => exact Store.wfFrom_insert h (Nat.zero_le a) ha hm

/-- A tabulated memory is canonical. -/
theorem Store.wfFrom_tabulateFrom (f : Nat → BitVec w) (lo n hi : Nat) (h : lo + n ≤ hi) :
    Store.wfFrom lo hi (Store.tabulateFrom f lo n) = true := by
  induction n generalizing lo with
  | zero => rfl
  | succ n ih =>
    have ih' := ih (lo + 1) (by omega)
    unfold Store.tabulateFrom
    split
    · exact Store.wfFrom_mono (by omega) ih'
    · next hf => exact Store.wfFrom_cons.mpr ⟨le_refl _, by omega, hf, ih'⟩

/-- Below its first key a tabulated memory lists nothing. -/
theorem Store.get_tabulateFrom_below (f : Nat → BitVec w) (lo n a : Nat) (h : a < lo) :
    Store.get (Store.tabulateFrom f lo n) a = 0 := by
  induction n generalizing lo with
  | zero => rfl
  | succ n ih =>
    unfold Store.tabulateFrom
    split
    · exact ih (lo + 1) (by omega)
    · rw [Store.get, if_neg (by omega)]
      exact ih (lo + 1) (by omega)

/-- A tabulated memory holds its function's values. -/
theorem Store.get_tabulateFrom (f : Nat → BitVec w) (lo n a : Nat) (h : lo ≤ a) (h' : a < lo + n) :
    Store.get (Store.tabulateFrom f lo n) a = f a := by
  induction n generalizing lo with
  | zero => omega
  | succ n ih =>
    unfold Store.tabulateFrom
    split
    · next hf =>
      by_cases e : lo = a
      · subst e
        rw [Store.get_tabulateFrom_below f (lo + 1) n lo (by omega), hf]
        rfl
      · exact ih (lo + 1) (by omega) (by omega)
    · by_cases e : lo = a
      · simp [Store.get, e]
      · rw [Store.get, if_neg e]
        exact ih (lo + 1) (by omega) (by omega)

/-- A list of bytes as a memory is canonical. -/
theorem Store.wfFrom_ofList (vs : List (BitVec w)) (lo hi : Nat) (h : lo + vs.length ≤ hi) :
    Store.wfFrom lo hi (Store.ofList lo vs) = true := by
  induction vs generalizing lo with
  | nil => rfl
  | cons v vs ih =>
    have ih' := ih (lo + 1) (by simp at h; omega)
    unfold Store.ofList
    split
    · exact Store.wfFrom_mono (by omega) ih'
    · next hv => exact Store.wfFrom_cons.mpr ⟨le_refl _, by simp at h; omega, hv, ih'⟩

theorem Store.get_ofList_below (vs : List (BitVec w)) (lo a : Nat) (h : a < lo) :
    Store.get (Store.ofList lo vs) a = 0 := by
  induction vs generalizing lo with
  | nil => rfl
  | cons v vs ih =>
    unfold Store.ofList
    split
    · exact ih (lo + 1) (by omega)
    · rw [Store.get, if_neg (by omega)]
      exact ih (lo + 1) (by omega)

/-- A list of bytes as a memory holds the list's values. -/
theorem Store.get_ofList (vs : List (BitVec w)) (lo i : Nat) :
    Store.get (Store.ofList lo vs) (lo + i) = vs.getD i 0 := by
  induction vs generalizing lo i with
  | nil => rfl
  | cons v vs ih =>
    unfold Store.ofList
    cases i with
    | zero =>
      split
      · next hv =>
        show Store.get _ lo = v
        rw [Store.get_ofList_below vs (lo + 1) lo (by omega), hv]
        rfl
      · simp [Store.get]
    | succ i =>
      have := ih (lo + 1) i
      rw [show lo + 1 + i = lo + (i + 1) by omega] at this
      split
      · simpa using this
      · rw [Store.get, if_neg (by omega)]
        simpa using this

/-- The reset state's memories are canonical. -/
theorem State.reset_mem_wf :
    Memory.wf 0x2000 State.reset.mem.vram = true ∧ Memory.wf 0x2000 State.reset.mem.wram = true ∧
      Memory.wf 160 State.reset.mem.oam = true ∧ Memory.wf 127 State.reset.mem.hram = true ∧
      Memory.wf 48 State.reset.mem.sound = true ∧ Memory.wf 32768 State.reset.cart.rom = true ∧
      Memory.wf 0 State.reset.cart.ram = true := by
  decide

end Sys2Proof.Machine
end

