-- ==== Sys2Proof/Laws/Bus.lean ====
section
/-! SUPPORT. What a bus access can do: a read depends on the units alone; a write keeps the CPU but for the
joypad's wake-up, keeps the configuration, adds a DMA's cycles to the cost, and acts on the units by the units
alone. -/

namespace Sys2Proof.Machine

/-- Two states with the same units read the same bytes. -/
theorem readRaw_congr {s t : State} (h : UnitsKept s t) (a : Word) : t.readRaw a = s.readRaw a := by
  obtain ⟨h1, h2, h3, h4, h5, h6, h7, h8⟩ := h
  unfold State.readRaw State.translate
  cases regionOf a <;> simp [h3, h6, h7]
  cases ioRegAt (offsetFrom 0xFF00 a) <;> simp [State.readIo, h1, h2, h4, h5, h6, h7]

theorem blocked_congr {s t : State} (h : UnitsKept s t) (a : Word) : t.blocked a = s.blocked a := by
  obtain ⟨-, h2, -, -, -, -, -, h8⟩ := h
  simp [State.blocked, h2, h8]

theorem read8_congr {s t : State} (h : UnitsKept s t) (a : Word) : t.read8 a = s.read8 a := by
  simp [State.read8, blocked_congr h, readRaw_congr h]

theorem UnitsKept.refl (s : State) : UnitsKept s s := ⟨rfl, rfl, rfl, rfl, rfl, rfl, rfl, rfl⟩

theorem UnitsKept.symm {s t : State} (h : UnitsKept s t) : UnitsKept t s :=
  ⟨h.1.symm, h.2.1.symm, h.2.2.1.symm, h.2.2.2.1.symm, h.2.2.2.2.1.symm, h.2.2.2.2.2.1.symm,
    h.2.2.2.2.2.2.1.symm, h.2.2.2.2.2.2.2.symm⟩

theorem UnitsKept.trans {s t u : State} (h : UnitsKept s t) (h' : UnitsKept t u) : UnitsKept s u := by
  obtain ⟨a1, a2, a3, a4, a5, a6, a7, a8⟩ := h
  obtain ⟨b1, b2, b3, b4, b5, b6, b7, b8⟩ := h'
  exact ⟨b1.trans a1, b2.trans a2, b3.trans a3, b4.trans a4, b5.trans a5, b6.trans a6, b7.trans a7,
    b8.trans a8⟩

/-- The registers, the cost and any number of their updates are outside the units. -/
theorem unitsKept_setCpu (s : State) (c : Cpu) : UnitsKept s (s.setCpu c) := UnitsKept.refl s
theorem unitsKept_setCost (s : State) (n : Nat) : UnitsKept s (s.setCost n) := UnitsKept.refl s
theorem unitsKept_advance (s : State) (n : Nat) : UnitsKept s (s.advance n) := UnitsKept.refl s

/-! ### One law per region: what it reads and what a write to it does, where nothing is blocked (20 R63-R74) -/

section

variable (s : State) {a : Word} (v : Byte)

theorem readRaw_romLo (h : regionOf a = .romLo) :
    s.readRaw a = Store.get s.cart.rom (s.cart.romBankLo * 0x4000 + a.toNat) := by
  simp [State.readRaw, State.translate, h]

theorem writeRaw_romLo (h : regionOf a = .romLo) :
    s.writeRaw a v = s.setCart (s.cart.bankingWrite a.toNat v) := by
  simp [State.writeRaw, h]

theorem readRaw_romHi (h : regionOf a = .romHi) :
    s.readRaw a = Store.get s.cart.rom (s.cart.romBankHi * 0x4000 + offsetFrom 0x4000 a) := by
  simp [State.readRaw, State.translate, h]

theorem writeRaw_romHi (h : regionOf a = .romHi) :
    s.writeRaw a v = s.setCart (s.cart.bankingWrite a.toNat v) := by
  simp [State.writeRaw, h]

theorem readRaw_vram (h : regionOf a = .vram) :
    s.readRaw a = Store.get s.mem.vram (offsetFrom 0x8000 a) := by
  simp [State.readRaw, State.translate, h]

theorem writeRaw_vram (h : regionOf a = .vram) :
    s.writeRaw a v = s.setMem { s.mem with vram := Store.set s.mem.vram (offsetFrom 0x8000 a) v } := by
  simp [State.writeRaw, State.translate, h]

theorem readRaw_extRam (h : regionOf a = .extRam) :
    s.readRaw a = s.cart.readRam (offsetFrom 0xA000 a) := by
  simp [State.readRaw, h]

theorem writeRaw_extRam (h : regionOf a = .extRam) :
    s.writeRaw a v = s.setCart (s.cart.writeRam (offsetFrom 0xA000 a) v) := by
  simp [State.writeRaw, h]

theorem readRaw_wram (h : regionOf a = .wram) :
    s.readRaw a = Store.get s.mem.wram (offsetFrom 0xC000 a) := by
  simp [State.readRaw, State.translate, h]

theorem writeRaw_wram (h : regionOf a = .wram) :
    s.writeRaw a v = s.setMem { s.mem with wram := Store.set s.mem.wram (offsetFrom 0xC000 a) v } := by
  simp [State.writeRaw, State.translate, h]

theorem readRaw_mirror (h : regionOf a = .mirror) :
    s.readRaw a = Store.get s.mem.wram (offsetFrom 0xE000 a) := by
  simp [State.readRaw, State.translate, h]

theorem writeRaw_mirror (h : regionOf a = .mirror) :
    s.writeRaw a v = s.setMem { s.mem with wram := Store.set s.mem.wram (offsetFrom 0xE000 a) v } := by
  simp [State.writeRaw, State.translate, h]

theorem readRaw_oam (h : regionOf a = .oam) :
    s.readRaw a = Store.get s.mem.oam (offsetFrom 0xFE00 a) := by
  simp [State.readRaw, State.translate, h]

theorem writeRaw_oam (h : regionOf a = .oam) :
    s.writeRaw a v = s.setMem { s.mem with oam := Store.set s.mem.oam (offsetFrom 0xFE00 a) v } := by
  simp [State.writeRaw, State.translate, h]

theorem readRaw_unusable (h : regionOf a = .unusable) :
    s.readRaw a = 0x00 := by
  simp [State.readRaw, h]

theorem writeRaw_unusable (h : regionOf a = .unusable) :
    s.writeRaw a v = s := by
  simp [State.writeRaw, h]

theorem readRaw_io (h : regionOf a = .io) :
    s.readRaw a = s.readIo (ioRegAt (offsetFrom 0xFF00 a)) := by
  simp [State.readRaw, State.translate, h]

theorem writeRaw_io (h : regionOf a = .io) :
    s.writeRaw a v = s.writeIo (ioRegAt (offsetFrom 0xFF00 a)) v := by
  simp [State.writeRaw, State.translate, h]

theorem readRaw_hram (h : regionOf a = .hram) :
    s.readRaw a = Store.get s.mem.hram (offsetFrom 0xFF80 a) := by
  simp [State.readRaw, State.translate, h]

theorem writeRaw_hram (h : regionOf a = .hram) :
    s.writeRaw a v = s.setMem { s.mem with hram := Store.set s.mem.hram (offsetFrom 0xFF80 a) v } := by
  simp [State.writeRaw, State.translate, h]

theorem readRaw_ie (h : regionOf a = .ie) :
    s.readRaw a = s.irq.enable := by
  simp [State.readRaw, h]

theorem writeRaw_ie (h : regionOf a = .ie) :
    s.writeRaw a v = s.setIrq { s.irq with enable := v } := by
  simp [State.writeRaw, h]

end

/-- The fields of a state after a joypad change. -/
theorem changePad_spec (s : State) (j : Joypad) :
    ∃ run flags, s.changePad j =
      { s with cpu := { s.cpu with run := run }, pad := j, irq := { s.irq with flags := flags } } ∧
      (s.cpu.run ≠ .stopped → run = s.cpu.run) := by
  unfold State.changePad
  simp only
  split
  · exact ⟨s.cpu.run, s.irq.flags, rfl, fun _ => rfl⟩
  · split
    · next h => exact ⟨.running, _, rfl, fun h' => absurd h h'⟩
    · exact ⟨s.cpu.run, _, rfl, fun _ => rfl⟩

/-- A write keeps every CPU register but `run`. -/
theorem write8_cpu (s : State) (a : Word) (v : Byte) :
    (s.write8 a v).cpu = { s.cpu with run := (s.write8 a v).cpu.run } := by
  unfold State.write8
  split
  · rfl
  · unfold State.writeRaw
    cases regionOf a <;> simp only
    case io =>
      cases ioRegAt (s.translate a).1 <;> first | rfl | skip
      case p1 =>
        obtain ⟨run, flags, h, -⟩ := changePad_spec s
          { s.pad with selAct := bitOf v 5, selDir := bitOf v 4 }
        simp only [State.writeIo, h]
      all_goals simp only [State.writeIo, State.setPpuAndStat, State.requestIf]; split <;> rfl
    all_goals rfl

/-- A write changes `run` only from Stopped. -/
theorem write8_run (s : State) (a : Word) (v : Byte) (h : s.cpu.run ≠ .stopped) :
    (s.write8 a v).cpu.run = s.cpu.run := by
  unfold State.write8
  split
  · rfl
  · unfold State.writeRaw
    cases regionOf a <;> simp only
    case io =>
      cases ioRegAt (s.translate a).1 <;> first | rfl | skip
      case p1 =>
        obtain ⟨run, flags, h', hr⟩ := changePad_spec s
          { s.pad with selAct := bitOf v 5, selDir := bitOf v 4 }
        simp only [State.writeIo, h', hr h]
      all_goals simp only [State.writeIo, State.setPpuAndStat, State.requestIf]; split <;> rfl
    all_goals rfl

theorem write8_cpu_eq (s : State) (a : Word) (v : Byte) (h : s.cpu.run ≠ .stopped) :
    (s.write8 a v).cpu = s.cpu := by
  rw [write8_cpu, write8_run s a v h]

/-- A write keeps what is fixed for a run (10 R56). -/
theorem write8_config (s : State) (a : Word) (v : Byte) :
    (s.write8 a v).params = s.params ∧ (s.write8 a v).cart.mbc = s.cart.mbc ∧
      (s.write8 a v).cart.romBanks = s.cart.romBanks ∧ (s.write8 a v).cart.ramSize = s.cart.ramSize ∧
      (s.write8 a v).cart.rom = s.cart.rom := by
  have hb : ∀ (c : Cart) (n : Nat), (c.bankingWrite n v).mbc = c.mbc ∧ (c.bankingWrite n v).romBanks = c.romBanks ∧
      (c.bankingWrite n v).ramSize = c.ramSize ∧ (c.bankingWrite n v).rom = c.rom := by
    intro c n
    unfold Cart.bankingWrite
    cases hm : c.mbc <;> simp only
    · simp [hm]
    · repeat' split
      all_goals simp
  have hw : ∀ (c : Cart) (n : Nat), (c.writeRam n v).mbc = c.mbc ∧ (c.writeRam n v).romBanks = c.romBanks ∧
      (c.writeRam n v).ramSize = c.ramSize ∧ (c.writeRam n v).rom = c.rom := by
    intro c n
    unfold Cart.writeRam
    split <;> simp
  unfold State.write8
  split
  · simp
  · unfold State.writeRaw
    cases regionOf a <;> simp only
    case io =>
      cases ioRegAt (s.translate a).1 <;> first | exact ⟨rfl, rfl, rfl, rfl, rfl⟩ | skip
      case p1 =>
        obtain ⟨run, flags, h', -⟩ := changePad_spec s
          { s.pad with selAct := bitOf v 5, selDir := bitOf v 4 }
        simp [State.writeIo, h']
      all_goals simp only [State.writeIo, State.setPpuAndStat, State.requestIf]; split <;> exact ⟨rfl, rfl, rfl, rfl, rfl⟩
    case romLo => exact ⟨rfl, hb _ _⟩
    case romHi => exact ⟨rfl, hb _ _⟩
    case extRam => exact ⟨rfl, hw _ _⟩
    all_goals refine ⟨?_, ?_, ?_, ?_, ?_⟩ <;> first | rfl | trivial

/-- The offset of an address at or above its base. -/
theorem offsetFrom_eq {base a : Word} {n : Nat} (hn : base.toNat = n) (h : n ≤ a.toNat) :
    offsetFrom base a = a.toNat - n := by
  have := a.isLt
  unfold offsetFrom
  rw [BitVec.toNat_sub]
  omega

/-- Two addresses have the same offset only if they are the same. -/
theorem offsetFrom_inj {base a b : Word} (h : offsetFrom base a = offsetFrom base b) : a = b := by
  have := BitVec.eq_of_toNat_eq h
  simpa using this

/-- The addresses of each region (20 R60). -/
theorem regionOf_bounds (a : Word) :
    match regionOf a with
    | .romLo => a.toNat < 0x4000
    | .romHi => 0x4000 ≤ a.toNat ∧ a.toNat < 0x8000
    | .vram => 0x8000 ≤ a.toNat ∧ a.toNat < 0xA000
    | .extRam => 0xA000 ≤ a.toNat ∧ a.toNat < 0xC000
    | .wram => 0xC000 ≤ a.toNat ∧ a.toNat < 0xE000
    | .mirror => 0xE000 ≤ a.toNat ∧ a.toNat < 0xFE00
    | .oam => 0xFE00 ≤ a.toNat ∧ a.toNat < 0xFEA0
    | .unusable => 0xFEA0 ≤ a.toNat ∧ a.toNat < 0xFF00
    | .io => 0xFF00 ≤ a.toNat ∧ a.toNat < 0xFF80
    | .hram => 0xFF80 ≤ a.toNat ∧ a.toNat < 0xFFFF
    | .ie => a.toNat = 0xFFFF := by
  have := a.isLt
  unfold regionOf
  simp only
  split_ifs <;> simp only <;> omega

theorem regionOf_io {a : Word} (h : regionOf a = .io) : 0xFF00 ≤ a.toNat ∧ a.toNat < 0xFF80 := by
  have := regionOf_bounds a
  rwa [h] at this

/-- The offset of each I/O register (10 R34). -/
theorem ioRegAt_offset (n : Nat) :
    match ioRegAt n with
    | .p1 => n = 0 | .sb => n = 1 | .sc => n = 2 | .div => n = 4 | .tima => n = 5 | .tma => n = 6
    | .tac => n = 7 | .iflag => n = 0x0F | .sound i => n = 0x10 + i ∧ i < 48 | .lcdc => n = 0x40
    | .stat => n = 0x41 | .scy => n = 0x42 | .scx => n = 0x43 | .ly => n = 0x44 | .lyc => n = 0x45
    | .dma => n = 0x46 | .bgp => n = 0x47 | .obp0 => n = 0x48 | .obp1 => n = 0x49 | .wy => n = 0x4A
    | .wx => n = 0x4B | .unmapped => n = 3 ∨ (8 ≤ n ∧ n ≤ 0x0E) ∨ 0x4C ≤ n := by
  by_cases h : n < 0x4C
  · interval_cases n <;> simp [ioRegAt]
  · have : ioRegAt n = .unmapped := by
      unfold ioRegAt
      rw [if_neg (by omega)]
      split <;> first | omega | rfl
    rw [this]
    simp only
    omega

theorem ioRegAt_dma {n : Nat} (h : ioRegAt n = .dma) : n = 0x46 := by
  have := ioRegAt_offset n
  rwa [h] at this

theorem writeIo_cost (s : State) (r : IoReg) (v : Byte) :
    (s.writeIo r v).cost = s.cost + if r = .dma then s.params.dmaCycles else 0 := by
  cases r <;> first | rfl | skip
  case p1 =>
    obtain ⟨run, flags, h', -⟩ := changePad_spec s
      { s.pad with selAct := bitOf v 5, selDir := bitOf v 4 }
    simp only [State.writeIo, h']
    rfl
  all_goals simp only [State.writeIo, State.setPpuAndStat, State.requestIf]; split <;> rfl

theorem ioRegAt_dma_iff (n : Nat) : ioRegAt n = .dma ↔ n = 0x46 :=
  ⟨ioRegAt_dma, fun h => by rw [h]; rfl⟩

theorem translate_io (s : State) {a : Word} (h : regionOf a = .io) :
    (s.translate a).1 = offsetFrom 0xFF00 a := by
  simp [State.translate, h]

/-- A write adds a DMA's cycles to the cost and nothing else (20 R80). -/
theorem write8_cost (s : State) (a : Word) (v : Byte) : (s.write8 a v).cost = s.cost + dmaCharge s a := by
  have hd : regionOf a ≠ .io → a ≠ 0xFF46 := by
    rintro h rfl
    simp [regionOf] at h
  unfold State.write8 dmaCharge
  split
  · next hb =>
    have : regionOf a ≠ .io := by
      intro h
      simp [State.blocked, h] at hb
    rw [if_neg (hd this), Nat.add_zero]
  · unfold State.writeRaw
    cases h : regionOf a <;> simp only
    case io =>
      have hio := regionOf_io h
      rw [writeIo_cost, translate_io s h]
      have e : offsetFrom 0xFF00 a = 0x46 ↔ a = 0xFF46 := by
        rw [offsetFrom_eq (by decide) hio.1, ← BitVec.toNat_inj]
        show a.toNat - 0xFF00 = 0x46 ↔ a.toNat = 0xFF46
        omega
      simp only [ioRegAt_dma_iff, e]
    all_goals rw [if_neg (hd (by rw [h]; simp))]; rfl

/-- What a write does to the units depends on the units alone. -/
theorem write8_congr {s t : State} (h : UnitsKept s t) (a : Word) (v : Byte) :
    UnitsKept (s.write8 a v) (t.write8 a v) := by
  obtain ⟨c, n, rfl⟩ : ∃ c n, t = { s with cpu := c, cost := n } := by
    obtain ⟨h1, h2, h3, h4, h5, h6, h7, h8⟩ := h
    cases s; cases t
    simp only at h1 h2 h3 h4 h5 h6 h7 h8
    subst h1 h2 h3 h4 h5 h6 h7 h8
    exact ⟨_, _, rfl⟩
  unfold State.write8
  rw [blocked_congr h]
  split
  · exact h
  · unfold State.writeRaw
    cases regionOf a <;> simp only
    case io =>
      show UnitsKept (s.writeIo (ioRegAt (s.translate a).1) v)
        (State.writeIo { s with cpu := c, cost := n } (ioRegAt (s.translate a).1) v)
      cases ioRegAt (s.translate a).1 <;> first | exact UnitsKept.refl _ | skip
      case p1 =>
        simp only [State.writeIo, State.changePad]
        split
        · exact UnitsKept.refl _
        · split <;> split <;> exact UnitsKept.refl _
      all_goals
        simp only [State.writeIo, State.setPpuAndStat, State.requestIf]
        split <;> exact UnitsKept.refl _
    all_goals exact ⟨rfl, rfl, rfl, rfl, rfl, rfl, rfl, rfl⟩

end Sys2Proof.Machine
end

