-- ==== Sys2Proof/Laws/Ops.lean ====
section
/-! SUPPORT. What each shared operation does, said once: the fetch's advance, the bus write seen from a state
that shares the units, the push and the pop, taking an interrupt, EI's commit, the T-cycle ticks, and the
frames of Safety from these. -/

namespace Sys2Proof.Machine

/-! ### The fetch's advance (60 R311) -/

theorem advance_cpu (s : State) {len : Nat} (h : 1 ≤ len) :
    (s.advance len).cpu = { s.cpu with pc := s.nextPc len, haltBug := false } := by
  have : s.cpu.pcAfterOpcode + BitVec.ofNat 16 (len - 1) = s.nextPc len := by
    obtain ⟨n, rfl⟩ : ∃ n, len = n + 1 := ⟨len - 1, by omega⟩
    unfold Cpu.pcAfterOpcode State.nextPc
    rw [Nat.add_sub_cancel, BitVec.ofNat_add]
    generalize BitVec.ofNat 16 n = m
    cases s.cpu.haltBug <;> simp only [Bool.false_eq_true, if_false, if_true] <;> bv_omega
  unfold State.advance
  rw [this]
  rfl

@[simp] theorem advance_cost (s : State) (len : Nat) : (s.advance len).cost = 0 := rfl
@[simp] theorem advance_get (s : State) (len : Nat) (r : Reg8) : (s.advance len).cpu.get r = s.cpu.get r := by
  cases r <;> rfl
@[simp] theorem advance_reg (s : State) (len : Nat) (r : Reg8) : (s.advance len).reg r = s.reg r :=
  advance_get s len r
@[simp] theorem advance_f (s : State) (len : Nat) : (s.advance len).cpu.f = s.cpu.f := rfl
@[simp] theorem advance_sp (s : State) (len : Nat) : (s.advance len).cpu.sp = s.cpu.sp := rfl
@[simp] theorem advance_hl (s : State) (len : Nat) : (s.advance len).hl = s.hl := rfl
@[simp] theorem advance_ime (s : State) (len : Nat) : (s.advance len).cpu.ime = s.cpu.ime := rfl
@[simp] theorem advance_eiPending (s : State) (len : Nat) : (s.advance len).cpu.eiPending = s.cpu.eiPending := rfl
@[simp] theorem advance_run (s : State) (len : Nat) : (s.advance len).cpu.run = s.cpu.run := rfl
@[simp] theorem advance_haltBug (s : State) (len : Nat) : (s.advance len).cpu.haltBug = false := rfl
theorem advance_pc (s : State) {len : Nat} (h : 1 ≤ len) : (s.advance len).cpu.pc = s.nextPc len := by
  rw [advance_cpu s h]
@[simp] theorem advance_read8 (s : State) (len : Nat) (a : Word) : (s.advance len).read8 a = s.read8 a :=
  read8_congr (UnitsKept.refl s) a

/-! ### Registers -/

/-- Writing a pair changes its two halves, or SP, alone. -/
theorem Cpu.setPair_spec (k : Cpu) (p : Pair) (v : Word) :
    (∀ r, r ∉ pairHalves p → (k.setPair p v).get r = k.get r) ∧
    (p ≠ .sp → (k.setPair p v).sp = k.sp) ∧
    (k.setPair p v).f = k.f ∧ (k.setPair p v).pc = k.pc ∧ (k.setPair p v).ime = k.ime ∧
    (k.setPair p v).eiPending = k.eiPending ∧ (k.setPair p v).haltBug = k.haltBug ∧
    (k.setPair p v).run = k.run := by
  cases p <;> refine ⟨fun r hr => ?_, fun h => ?_, rfl, rfl, rfl, rfl, rfl, rfl⟩ <;>
    first
    | rfl
    | exact absurd rfl h
    | (cases r <;> first | rfl | exact absurd (by decide) hr)

/-- The run state after a joypad change (20 R101). -/
theorem changePad_run (s : State) (j : Joypad) :
    (s.changePad j).cpu.run =
      if s.pad.low &&& ~~~j.low = 0 then s.cpu.run
      else if s.cpu.run = .stopped then .running else s.cpu.run := by
  unfold State.changePad
  simp only
  split
  · rfl
  · show (if s.cpu.run = .stopped then _ else _ : State).cpu.run = _
    split <;> rfl

theorem setPpuAndStat_cpu (s : State) (p : Ppu) : (s.setPpuAndStat p).cpu = s.cpu :=
  State.requestIf_cpu _ _ _

/-- The run state a write leaves depends on the units and the run state alone (20 R101). -/
theorem write8_run_congr {s u : State} (hu : UnitsKept s u) (hn : u.cpu.run = s.cpu.run) (a : Word) (v : Byte) :
    (u.write8 a v).cpu.run = (s.write8 a v).cpu.run := by
  obtain ⟨c, n, rfl⟩ : ∃ c n, u = { s with cpu := c, cost := n } := by
    obtain ⟨h1, h2, h3, h4, h5, h6, h7, h8⟩ := hu
    obtain ⟨cpu, timer, ppu, cart, pad, serial, irq, mem, params, cost⟩ := u
    simp only at h1 h2 h3 h4 h5 h6 h7 h8
    subst h1 h2 h3 h4 h5 h6 h7 h8
    exact ⟨cpu, cost, rfl⟩
  have hb : ({ s with cpu := c, cost := n } : State).blocked a = s.blocked a := blocked_congr (UnitsKept.refl s) a
  unfold State.write8
  rw [hb]
  split
  · exact hn
  · cases hr : regionOf a
    case io =>
      rw [writeRaw_io _ v hr, writeRaw_io _ v hr]
      cases ioRegAt (offsetFrom 0xFF00 a)
      case p1 =>
        rw [State.writeIo, State.writeIo, changePad_run, changePad_run]
        show (if _ then c.run else if c.run = _ then _ else c.run) = _
        rw [show c.run = s.cpu.run from hn]
      case stat => exact (setPpuAndStat_cpu _ _ ▸ hn).trans (setPpuAndStat_cpu _ _ ▸ rfl)
      case lyc => exact (setPpuAndStat_cpu _ _ ▸ hn).trans (setPpuAndStat_cpu _ _ ▸ rfl)
      case lcdc => exact (setPpuAndStat_cpu _ _ ▸ hn).trans (setPpuAndStat_cpu _ _ ▸ rfl)
      all_goals exact hn
    all_goals
      simp only [State.writeRaw, hr]
      exact hn

/-! ### The frames, from the parts -/

/-- A state with the units of `s`, and its registers and control latches but those named, has the quiet frame. -/
theorem quietFrame_of {w : List Reg8} {s t : State} (hr : ∀ r, r ∉ w → t.cpu.get r = s.cpu.get r)
    (hi : t.cpu.ime = s.cpu.ime) (he : t.cpu.eiPending = s.cpu.eiPending) (hn : t.cpu.run = s.cpu.run)
    (hb : t.cpu.haltBug = false) (hu : UnitsKept s t) : QuietFrame w s t :=
  ⟨hr, ⟨hi, he, hn, hb⟩, hu, fun b => read8_congr hu b⟩

/-- A store of `v` at `a` from a state `u` with the units and latches of `s`, followed by register updates. The
last hypothesis is the frame of the bus write itself. -/
theorem storeFrame_of {w : List Reg8} {s u t : State} {a : Word} {v : Byte} (hu : UnitsKept s u)
    (hui : u.cpu.ime = s.cpu.ime) (hue : u.cpu.eiPending = s.cpu.eiPending) (hun : u.cpu.run = s.cpu.run)
    (hub : u.cpu.haltBug = false) (hur : ∀ r, r ∉ w → u.cpu.get r = s.cpu.get r)
    (ht : UnitsKept (u.write8 a v) t)
    (htc : t.cpu.ime = u.cpu.ime ∧ t.cpu.eiPending = u.cpu.eiPending ∧ t.cpu.haltBug = u.cpu.haltBug ∧
      t.cpu.run = (u.write8 a v).cpu.run)
    (htr : ∀ r, r ∉ w → t.cpu.get r = u.cpu.get r)
    (hw : ∀ b, touches s a b = false → (s.write8 a v).read8 b = s.read8 b) : StoreFrame w a v s t := by
  obtain ⟨h1, h2, h3, h4⟩ := htc
  have hrun := write8_run_congr hu hun a v
  have hk : UnitsKept (s.write8 a v) t := (write8_congr hu a v).trans ht
  refine ⟨fun r hr => (htr r hr).trans (hur r hr), h1.trans hui, h2.trans hue, h3.trans hub, h4.trans hrun,
    fun h => ?_, hk, fun b hb => (read8_congr hk b).trans (hw b hb)⟩
  rw [h4, hrun, write8_run s a v h]

/-! ### The stack (41 R186) -/

@[simp] theorem popped_sp (s : State) : s.popped.cpu.sp = s.cpu.sp + 2 := rfl
theorem popped_cpu (s : State) : s.popped.cpu = { s.cpu with sp := s.cpu.sp + 2 } := rfl
theorem popValue_eq (s : State) : s.popValue = s.stackTop := rfl

/-- Returning from an interrupt: PC popped, IME set at once, EI's latch cleared, and nothing else (46 R280). -/
theorem returnFromInterrupt_spec (s : State) :
    s.returnFromInterrupt = { s with cpu := { s.cpu with
      sp := s.cpu.sp + 2, pc := s.stackTop, ime := true, eiPending := false } } := rfl

/-- The units are those of the state before, for any update of the CPU and the cost. -/
theorem unitsKept_withCpu (s : State) (c : Cpu) (n : Nat) : UnitsKept s { s with cpu := c, cost := n } :=
  UnitsKept.refl s

/-- A push: SP down by two, the two bus writes of its bytes, their DMA charges, and nothing else. -/
theorem push16_spec (s : State) (v : Word) :
    let w := (s.write8 (s.cpu.sp - 1) (hiByte v)).write8 (s.cpu.sp - 2) (loByte v)
    (s.push16 v).cpu = { s.cpu with sp := s.cpu.sp - 2, run := w.cpu.run } ∧ UnitsKept w (s.push16 v) ∧
      (s.push16 v).cost = s.cost + pushCharge s := by
  have hs : ∀ (u : State) (p : Word), UnitsKept u (u.setSp p) := fun u p => UnitsKept.refl u
  have h2 : s.cpu.sp - 1 - 1 = s.cpu.sp - 2 := by bv_omega
  have e1 := write8_cpu (s.setSp (s.cpu.sp - 1)) (s.cpu.sp - 1) (hiByte v)
  have k1 : UnitsKept (s.write8 (s.cpu.sp - 1) (hiByte v))
      ((s.setSp (s.cpu.sp - 1)).write8 (s.cpu.sp - 1) (hiByte v)) := write8_congr (hs s _) _ _
  have r1 : ((s.setSp (s.cpu.sp - 1)).write8 (s.cpu.sp - 1) (hiByte v)).cpu.run =
      (s.write8 (s.cpu.sp - 1) (hiByte v)).cpu.run :=
    write8_run_congr (s := s) (u := s.setSp (s.cpu.sp - 1)) (hs s _) rfl _ _
  have c1 := write8_cost (s.setSp (s.cpu.sp - 1)) (s.cpu.sp - 1) (hiByte v)
  have p1 := (write8_config (s.setSp (s.cpu.sp - 1)) (s.cpu.sp - 1) (hiByte v)).1
  intro w
  have e : s.push16 v = (((s.setSp (s.cpu.sp - 1)).write8 (s.cpu.sp - 1) (hiByte v)).setSp
      (s.cpu.sp - 2)).write8 (s.cpu.sp - 2) (loByte v) := by
    show State.write8 (State.setSp _ (((s.setSp (s.cpu.sp - 1)).write8 (s.cpu.sp - 1) (hiByte v)).cpu.sp - 1))
      (((s.setSp (s.cpu.sp - 1)).write8 (s.cpu.sp - 1) (hiByte v)).cpu.sp - 1) _ = _
    rw [e1]
    show State.write8 (State.setSp _ (s.cpu.sp - 1 - 1)) (s.cpu.sp - 1 - 1) _ = _
    rw [h2]
    rfl
  rw [e]
  generalize (s.setSp (s.cpu.sp - 1)).write8 (s.cpu.sp - 1) (hiByte v) = u at *
  have k2 := k1.trans (hs u (s.cpu.sp - 2))
  refine ⟨?_, write8_congr k2 _ _, ?_⟩
  · rw [write8_cpu, write8_run_congr k2 r1]
    have e1' : u.cpu = { s.cpu with sp := s.cpu.sp - 1, run := u.cpu.run } := e1
    have e2 : ({ u.cpu with sp := s.cpu.sp - 2, run := w.cpu.run } : Cpu) =
        { s.cpu with sp := s.cpu.sp - 2, run := w.cpu.run } := by rw [e1']
    exact e2
  · rw [write8_cost]
    show u.cost + (if _ then u.params.dmaCycles else 0) = _
    rw [c1, p1]
    show s.cost + dmaCharge s _ + dmaCharge s _ = _
    unfold pushCharge
    omega

/-! ### EI's commit and the ticks (60 R310, R311) -/

/-- EI's commit changes IME and EI's latch alone. -/
theorem commitEi_spec (s : State) (commit : Bool) :
    s.commitEi commit = { s with cpu := { s.cpu with
      ime := (s.commitEi commit).cpu.ime, eiPending := (s.commitEi commit).cpu.eiPending } } := by
  unfold State.commitEi
  split
  · rfl
  · split <;> rfl

theorem timerTick_spec (s : State) :
    s.timerTick = { s with
      timer := (s.timer.tick s.params.timaReloadDelay).1,
      irq := { s.irq with flags := if (s.timer.tick s.params.timaReloadDelay).2 = true
        then s.irq.flags ||| 1#5 <<< 2 else s.irq.flags } } := by
  unfold State.timerTick State.requestIf
  simp only
  split <;> rfl

/-- P_MODE3_LEN's range, whichever function it is (65 R383). -/
theorem State.mode3Len_range (s : State) (q : Ppu) : 172 ≤ s.mode3Len q ∧ s.mode3Len q ≤ 289 := by
  unfold State.mode3Len
  split
  · unfold Machine.mode3Len
    omega
  · next k _ =>
    have := (Config.drawLen k { s with ppu := q }).isLt
    omega

/-- P_MODE3_LEN at its default is the formula (65 R383). -/
theorem State.mode3Len_formula {s : State} (h : s.params.mode3Len = .formula) (q : Ppu) :
    s.mode3Len q = Machine.mode3Len q.scx q.windowOn (bitOf q.lcdc 1) q.objs.length := by
  unfold State.mode3Len
  rw [h]

theorem ppuTick_spec (s : State) :
    s.ppuTick = { s with
      ppu := (s.ppu.tick s.mode3Len s.mem.vram s.mem.oam).1,
      irq := { s.irq with flags := s.irq.flags ||| (s.ppu.tick s.mode3Len s.mem.vram s.mem.oam).2 } } := rfl

/-- One T-cycle: the timer and the PPU, each by its own tick; P_MODE3_LEN sees the timer ticked. -/
theorem tCycle_spec (s : State) :
    s.tCycle = { s with
      timer := (s.timer.tick s.params.timaReloadDelay).1,
      ppu := (s.ppu.tick s.timerTick.mode3Len s.mem.vram s.mem.oam).1,
      irq := { s.irq with
        flags := s.timerTick.irq.flags ||| (s.ppu.tick s.timerTick.mode3Len s.mem.vram s.mem.oam).2 } } := by
  have h : s.timerTick.ppu = s.ppu ∧ s.timerTick.mem = s.mem := by rw [timerTick_spec]; exact ⟨rfl, rfl⟩
  unfold State.tCycle
  rw [ppuTick_spec, h.1, h.2]
  rw [timerTick_spec]

@[simp] theorem tCycle_timer (s : State) : s.tCycle.timer = (s.timer.tick s.params.timaReloadDelay).1 := by
  rw [tCycle_spec]
@[simp] theorem tCycle_ppu (s : State) :
    s.tCycle.ppu = (s.ppu.tick s.timerTick.mode3Len s.mem.vram s.mem.oam).1 := by rw [tCycle_spec]
@[simp] theorem tCycle_mem (s : State) : s.tCycle.mem = s.mem := by rw [tCycle_spec]
@[simp] theorem tCycle_params (s : State) : s.tCycle.params = s.params := by rw [tCycle_spec]

/-- Any number of T-cycles leave the CPU, the cartridge, the joypad, the serial registers, the memories, IE, the
parameters and the cost. -/
theorem tCycles_kept (s : State) (n : Nat) :
    (s.tCycles n).cpu = s.cpu ∧ (s.tCycles n).cart = s.cart ∧ (s.tCycles n).pad = s.pad ∧
      (s.tCycles n).serial = s.serial ∧ (s.tCycles n).mem = s.mem ∧
      (s.tCycles n).irq.enable = s.irq.enable ∧ (s.tCycles n).params = s.params ∧ (s.tCycles n).cost = s.cost := by
  induction n generalizing s with
  | zero => exact ⟨rfl, rfl, rfl, rfl, rfl, rfl, rfl, rfl⟩
  | succ n ih =>
    obtain ⟨h1, h2, h3, h4, h5, h6, h7, h8⟩ := ih s.tCycle
    have k := tCycle_spec s
    exact ⟨h1.trans (by rw [k]), h2.trans (by rw [k]), h3.trans (by rw [k]), h4.trans (by rw [k]),
      h5.trans (by rw [k]), h6.trans (by rw [k]), h7.trans (by rw [k]), h8.trans (by rw [k])⟩

/-- The timer after n T-cycles is the timer ticked n times (60 R341). -/
theorem tCycles_timer (s : State) (n : Nat) :
    (s.tCycles n).timer = (fun t => (t.tick s.params.timaReloadDelay).1)^[n] s.timer := by
  induction n generalizing s with
  | zero => rfl
  | succ n ih =>
    show (s.tCycle.tCycles n).timer = _
    rw [ih, tCycle_timer, tCycle_params, Function.iterate_succ_apply]

/-- The last of n + 1 T-cycles is one T-cycle of what n leave. -/
theorem tCycles_succ (s : State) (n : Nat) : s.tCycles (n + 1) = (s.tCycles n).tCycle := by
  induction n generalizing s with
  | zero => rfl
  | succ n ih => exact ih s.tCycle

/-- The PPU after one T-cycle more: its own tick, with some Drawing-length function of range 172..289 (65 R377,
R383). -/
theorem tCycles_ppu (s : State) (n : Nat) : ∃ len : Ppu → Nat, (∀ q, 172 ≤ len q ∧ len q ≤ 289) ∧
    (s.tCycles (n + 1)).ppu = ((s.tCycles n).ppu.tick len s.mem.vram s.mem.oam).1 := by
  refine ⟨(s.tCycles n).timerTick.mode3Len, State.mode3Len_range _, ?_⟩
  rw [tCycles_succ, tCycle_ppu, (tCycles_kept s n).2.2.2.2.1]

/-- A step from the CPU's step (60 R310). -/
theorem step_next_iff {s t : State} :
    step s = .next t ↔ ∃ u, cpuStep s = .next u ∧ t = u.tCycles u.cost := by
  unfold step systemStep
  cases h : cpuStep s <;> simp [eq_comm]

end Sys2Proof.Machine
end

