-- ==== Sys2Proof/Laws/Exec.lean ====
section
/-! SUPPORT. What an instruction can do, said once: but for HALT, STOP and the illegal bytes it is a fetch
followed by register updates that keep the latch of the halt bug and the run state, bus writes, and charges of
multiples of 4. An invariant that these keep is kept by every instruction. -/

namespace Sys2Proof.Machine

/-- `t` is reached from `s` by a fetch and then register updates, bus writes and charges. -/
inductive Built (s : State) : State → Prop
  | fetch (len : Nat) : Built s (s.advance len)
  | regs {t : State} (c : Cpu) :
      Built s t → c.haltBug = t.cpu.haltBug → c.run = t.cpu.run → Built s (t.setCpu c)
  | write {t : State} (a : Word) (v : Byte) : Built s t → Built s (t.write8 a v)
  | charge {t : State} (n : Nat) : Built s t → n % 4 = 0 → Built s (t.charge n)

theorem Built.setReg {s t : State} (h : Built s t) (r : Reg8) (v : Byte) : Built s (t.setReg r v) := by
  refine .regs _ h ?_ ?_ <;> cases r <;> rfl
theorem Built.setFlags {s t : State} (h : Built s t) (f : Flags) : Built s (t.setFlags f) := .regs _ h rfl rfl
theorem Built.setPc {s t : State} (h : Built s t) (v : Word) : Built s (t.setPc v) := .regs _ h rfl rfl
theorem Built.setSp {s t : State} (h : Built s t) (v : Word) : Built s (t.setSp v) := .regs _ h rfl rfl
theorem Built.setPair {s t : State} (h : Built s t) (p : Pair) (v : Word) : Built s (t.setPair p v) := by
  refine .regs _ h ?_ ?_ <;> cases p <;> rfl
theorem Built.setAcc {s t : State} (h : Built s t) (r : Byte × Flags) : Built s (t.setAcc r) :=
  (h.setReg _ _).setFlags _
theorem Built.push16 {s t : State} (h : Built s t) (v : Word) : Built s (t.push16 v) :=
  .write _ _ (.setSp (.write _ _ (h.setSp _)) _)
theorem Built.popped {s t : State} (h : Built s t) : Built s t.popped := h.setSp _

/-! ### The shared operations -/

theorem built_noOperation (s : State) : Built s (noOperation s) := .charge _ (.fetch _) rfl
theorem built_ldPairImm (s : State) (p : Pair) (nn : Word) : Built s (ldPairImm p nn s) :=
  .charge _ ((Built.fetch _).setPair _ _) rfl
theorem built_incPair (s : State) (p : Pair) : Built s (incPair p s) :=
  .charge _ ((Built.fetch _).setPair _ _) rfl
theorem built_incReg (s : State) (r : Reg8) : Built s (incReg r s) :=
  .charge _ (((Built.fetch _).setReg _ _).setFlags _) rfl
theorem built_decReg (s : State) (r : Reg8) : Built s (decReg r s) :=
  .charge _ (((Built.fetch _).setReg _ _).setFlags _) rfl
theorem built_ldRegImm (s : State) (r : Reg8) (n : Byte) : Built s (ldRegImm r n s) :=
  .charge _ ((Built.fetch _).setReg _ _) rfl
theorem built_rotAcc (s : State) (o : RotOp) : Built s (rotAcc o s) :=
  .charge _ (((Built.fetch _).setReg _ _).setFlags _) rfl
theorem built_ldMemSp (s : State) (nn : Word) : Built s (ldMemSp nn s) :=
  .charge _ (.write _ _ (.write _ _ (.fetch _))) rfl
theorem built_addHl (s : State) (p : Pair) : Built s (addHl p s) :=
  .charge _ (((Built.fetch _).setPair _ _).setFlags _) rfl
theorem built_decPair (s : State) (p : Pair) : Built s (decPair p s) :=
  .charge _ ((Built.fetch _).setPair _ _) rfl
theorem built_jumpRel (s : State) (e : Byte) : Built s (jumpRel e s) :=
  .charge _ ((Built.fetch _).setPc _) rfl
theorem built_ldMemHlStep (s : State) (d : Word) : Built s (ldMemHlStep d s) :=
  .charge _ ((Built.write _ _ (.fetch _)).setPair _ _) rfl
theorem built_accOp (s : State) (f : Byte → Flags → Byte × Flags) : Built s (accOp f s) :=
  .charge _ ((Built.fetch _).setAcc _) rfl
theorem built_ldAccHlStep (s : State) (d : Word) : Built s (ldAccHlStep d s) :=
  .charge _ (((Built.fetch _).setReg _ _).setPair _ _) rfl
theorem built_incMem (s : State) : Built s (incMem s) :=
  .charge _ ((Built.write _ _ (.fetch _)).setFlags _) rfl
theorem built_decMem (s : State) : Built s (decMem s) :=
  .charge _ ((Built.write _ _ (.fetch _)).setFlags _) rfl
theorem built_ldMemImm (s : State) (n : Byte) : Built s (ldMemImm n s) :=
  .charge _ (.write _ _ (.fetch _)) rfl
theorem built_flagOp (s : State) (f : Flags → Flags) : Built s (flagOp f s) :=
  .charge _ ((Built.fetch _).setFlags _) rfl
theorem built_ldRegReg (s : State) (d : Reg8) (r : Reg8) : Built s (ldRegReg d r s) :=
  .charge _ ((Built.fetch _).setReg _ _) rfl
theorem built_ldRegMem (s : State) (d : Reg8) : Built s (ldRegMem d s) :=
  .charge _ ((Built.fetch _).setReg _ _) rfl
theorem built_ldMemReg (s : State) (r : Reg8) : Built s (ldMemReg r s) :=
  .charge _ (.write _ _ (.fetch _)) rfl
theorem built_aluReg (s : State) (o : AluOp) (r : Reg8) : Built s (aluReg o r s) :=
  .charge _ ((Built.fetch _).setAcc _) rfl
theorem built_aluMem (s : State) (o : AluOp) : Built s (aluMem o s) :=
  .charge _ ((Built.fetch _).setAcc _) rfl
theorem built_jump (s : State) (nn : Word) : Built s (jump nn s) := .charge _ ((Built.fetch _).setPc _) rfl
theorem built_pushPair (s : State) (p : StackPair) : Built s (pushPair p s) :=
  .charge _ ((Built.fetch _).push16 _) rfl
theorem built_aluImm (s : State) (o : AluOp) (n : Byte) : Built s (aluImm o n s) :=
  .charge _ ((Built.fetch _).setAcc _) rfl
theorem built_restart (s : State) (a : Word) : Built s (restart a s) :=
  .charge _ (((Built.fetch _).push16 _).setPc _) rfl
theorem built_returnAbs (s : State) : Built s (returnAbs s) := .charge _ ((Built.fetch _).popped.setPc _) rfl
theorem built_callAbs (s : State) (nn : Word) : Built s (callAbs nn s) :=
  .charge _ (((Built.fetch _).push16 _).setPc _) rfl
theorem built_returnEnable (s : State) : Built s (returnEnable s) :=
  .charge _ (.regs _ ((Built.fetch _).popped.setPc _) rfl rfl) rfl
theorem built_addSpE (s : State) (e : Byte) : Built s (addSpE e s) :=
  .charge _ (((Built.fetch _).setSp _).setFlags _) rfl
theorem built_jumpHl (s : State) : Built s (jumpHl s) := .charge _ ((Built.fetch _).setPc _) rfl
theorem built_disableInterrupts (s : State) : Built s (disableInterrupts s) :=
  .charge _ (.regs _ (.fetch _) rfl rfl) rfl
theorem built_ldHlSpE (s : State) (e : Byte) : Built s (ldHlSpE e s) :=
  .charge _ (((Built.fetch _).setPair _ _).setFlags _) rfl
theorem built_ldSpHl (s : State) : Built s (ldSpHl s) := .charge _ ((Built.fetch _).setSp _) rfl
theorem built_enableInterrupts (s : State) : Built s (enableInterrupts s) :=
  .charge _ (.regs _ (.fetch _) rfl rfl) rfl
theorem built_rotReg (s : State) (o : RotOp) (r : Reg8) : Built s (rotReg o r s) :=
  .charge _ (((Built.fetch _).setReg _ _).setFlags _) rfl
theorem built_rotMem (s : State) (o : RotOp) : Built s (rotMem o s) :=
  .charge _ ((Built.write _ _ (.fetch _)).setFlags _) rfl
theorem built_bitReg (s : State) (b : Fin 8) (r : Reg8) : Built s (bitReg b r s) :=
  .charge _ ((Built.fetch _).setFlags _) rfl
theorem built_bitMem (s : State) (b : Fin 8) : Built s (bitMem b s) :=
  .charge _ ((Built.fetch _).setFlags _) rfl
theorem built_resReg (s : State) (b : Fin 8) (r : Reg8) : Built s (resReg b r s) :=
  .charge _ ((Built.fetch _).setReg _ _) rfl
theorem built_resMem (s : State) (b : Fin 8) : Built s (resMem b s) := .charge _ (.write _ _ (.fetch _)) rfl
theorem built_setReg (s : State) (b : Fin 8) (r : Reg8) : Built s (setReg b r s) :=
  .charge _ ((Built.fetch _).setReg _ _) rfl
theorem built_setMem (s : State) (b : Fin 8) : Built s (setMem b s) := .charge _ (.write _ _ (.fetch _)) rfl
theorem built_ldMemAcc (s : State) (len cost : Nat) (a : Word) (h : cost % 4 = 0) :
    Built s (ldMemAcc len cost a s) := .charge _ (.write _ _ (.fetch _)) h
theorem built_ldAccMem (s : State) (len cost : Nat) (a : Word) (h : cost % 4 = 0) :
    Built s (ldAccMem len cost a s) := .charge _ ((Built.fetch _).setReg _ _) h
theorem built_popPair (s : State) (p : StackPair) : Built s (popPair p s) := by
  refine .charge _ (.regs _ (Built.fetch _).popped ?_ ?_) rfl <;> cases p <;> rfl
theorem built_jumpIf (s : State) (cc : Cond) (nn : Word) : Built s (jumpIf cc nn s) := by
  unfold jumpIf
  simp only
  split
  · exact .charge _ ((Built.fetch _).setPc _) rfl
  · exact .charge _ (.fetch _) rfl
theorem built_jumpRelIf (s : State) (cc : Cond) (e : Byte) : Built s (jumpRelIf cc e s) := by
  unfold jumpRelIf
  simp only
  split
  · exact .charge _ ((Built.fetch _).setPc _) rfl
  · exact .charge _ (.fetch _) rfl
theorem built_callIf (s : State) (cc : Cond) (nn : Word) : Built s (callIf cc nn s) := by
  unfold callIf
  simp only
  split
  · exact .charge _ (((Built.fetch _).push16 _).setPc _) rfl
  · exact .charge _ (.fetch _) rfl
theorem built_returnIf (s : State) (cc : Cond) : Built s (returnIf cc s) := by
  unfold returnIf
  simp only
  split
  · exact .charge _ ((Built.fetch _).popped.setPc _) rfl
  · exact .charge _ (.fetch _) rfl

/-! ### Every instruction -/

/-- The state an instruction answers, if it answers one. -/
theorem exec_shape {i : Instr} {s t : State} (h : exec i s = .next t) :
    Built s t ∨ (i = .halt ∧ t = haltCpu s) ∨ (i = .stop ∧ t = stopCpu s) ∨
      ∃ b, i.illegalByte = some b ∧ t = s.illegalOpcode b := by
  have q : ∀ {u : State}, Built s u → (Host.Outcome.next u : Result) = .next t → Built s t := by
    intro u hb e
    cases e
    exact hb
  cases i
  case halt => cases h; exact .inr (.inl ⟨rfl, rfl⟩)
  case stop => cases h; exact .inr (.inr (.inl ⟨rfl, rfl⟩))
  case illegalD3 | illegalDB | illegalDD | illegalE3 | illegalE4 | illegalEB | illegalEC | illegalED |
      illegalF4 | illegalFC | illegalFD =>
    cases h; exact .inr (.inr (.inr ⟨_, rfl, rfl⟩))
  case nop =>
    exact .inl (q (built_noOperation _) h)
  case ldBCNn | ldDENn | ldHLNn | ldSPNn =>
    exact .inl (q (built_ldPairImm _ _ _) h)
  case ldAtBCA | ldAtDEA | ldhAtNA | ldhAtCA | ldAtNnA =>
    exact .inl (q (built_ldMemAcc _ _ _ _ rfl) h)
  case incBC | incDE | incHL | incSP =>
    exact .inl (q (built_incPair _ _) h)
  case incB | incC | incD | incE | incH | incL | incA =>
    exact .inl (q (built_incReg _ _) h)
  case decB | decC | decD | decE | decH | decL | decA =>
    exact .inl (q (built_decReg _ _) h)
  case ldBN | ldCN | ldDN | ldEN | ldHN | ldLN | ldAN =>
    exact .inl (q (built_ldRegImm _ _ _) h)
  case rlca | rrca | rla | rra =>
    exact .inl (q (built_rotAcc _ _) h)
  case ldAtNnSP =>
    exact .inl (q (built_ldMemSp _ _) h)
  case addHLBC | addHLDE | addHLHL | addHLSP =>
    exact .inl (q (built_addHl _ _) h)
  case ldAAtBC | ldAAtDE | ldhAAtN | ldhAAtC | ldAAtNn =>
    exact .inl (q (built_ldAccMem _ _ _ _ rfl) h)
  case decBC | decDE | decHL | decSP =>
    exact .inl (q (built_decPair _ _) h)
  case jr =>
    exact .inl (q (built_jumpRel _ _) h)
  case jrNZ | jrZ | jrNC | jrC =>
    exact .inl (q (built_jumpRelIf _ _ _) h)
  case ldAtHLIncA | ldAtHLDecA =>
    exact .inl (q (built_ldMemHlStep _ _) h)
  case daa | cpl =>
    exact .inl (q (built_accOp _ _) h)
  case ldAAtHLInc | ldAAtHLDec =>
    exact .inl (q (built_ldAccHlStep _ _) h)
  case incAtHL =>
    exact .inl (q (built_incMem _) h)
  case decAtHL =>
    exact .inl (q (built_decMem _) h)
  case ldAtHLN =>
    exact .inl (q (built_ldMemImm _ _) h)
  case scf | ccf =>
    exact .inl (q (built_flagOp _ _) h)
  case ldBB | ldBC | ldBD | ldBE | ldBH | ldBL | ldBA | ldCB | ldCC | ldCD | ldCE | ldCH | ldCL | ldCA | ldDB
      | ldDC | ldDD | ldDE | ldDH | ldDL | ldDA | ldEB | ldEC | ldED | ldEE | ldEH | ldEL | ldEA | ldHB | ldHC
      | ldHD | ldHE | ldHH | ldHL | ldHA | ldLB | ldLC | ldLD | ldLE | ldLH | ldLL | ldLA | ldAB | ldAC | ldAD
      | ldAE | ldAH | ldAL | ldAA =>
    exact .inl (q (built_ldRegReg _ _ _) h)
  case ldBAtHL | ldCAtHL | ldDAtHL | ldEAtHL | ldHAtHL | ldLAtHL | ldAAtHL =>
    exact .inl (q (built_ldRegMem _ _) h)
  case ldAtHLB | ldAtHLC | ldAtHLD | ldAtHLE | ldAtHLH | ldAtHLL | ldAtHLA =>
    exact .inl (q (built_ldMemReg _ _) h)
  case addAB | addAC | addAD | addAE | addAH | addAL | addAA | adcAB | adcAC | adcAD | adcAE | adcAH | adcAL |
      adcAA | subB | subC | subD | subE | subH | subL | subA | sbcAB | sbcAC | sbcAD | sbcAE | sbcAH | sbcAL |
      sbcAA | andB | andC | andD | andE | andH | andL | andA | xorB | xorC | xorD | xorE | xorH | xorL | xorA
      | orB | orC | orD | orE | orH | orL | orA | cpB | cpC | cpD | cpE | cpH | cpL | cpA =>
    exact .inl (q (built_aluReg _ _ _) h)
  case addAAtHL | adcAAtHL | subAtHL | sbcAAtHL | andAtHL | xorAtHL | orAtHL | cpAtHL =>
    exact .inl (q (built_aluMem _ _) h)
  case retNZ | retZ | retNC | retC =>
    exact .inl (q (built_returnIf _ _) h)
  case popBC | popDE | popHL | popAF =>
    exact .inl (q (built_popPair _ _) h)
  case jpNZ | jpZ | jpNC | jpC =>
    exact .inl (q (built_jumpIf _ _ _) h)
  case jp =>
    exact .inl (q (built_jump _ _) h)
  case callNZ | callZ | callNC | callC =>
    exact .inl (q (built_callIf _ _ _) h)
  case pushBC | pushDE | pushHL | pushAF =>
    exact .inl (q (built_pushPair _ _) h)
  case addAN | adcAN | subN | sbcAN | andN | xorN | orN | cpN =>
    exact .inl (q (built_aluImm _ _ _) h)
  case rst00 | rst08 | rst10 | rst18 | rst20 | rst28 | rst30 | rst38 =>
    exact .inl (q (built_restart _ _) h)
  case ret =>
    exact .inl (q (built_returnAbs _) h)
  case call =>
    exact .inl (q (built_callAbs _ _) h)
  case reti =>
    exact .inl (q (built_returnEnable _) h)
  case addSPE =>
    exact .inl (q (built_addSpE _ _) h)
  case jpHL =>
    exact .inl (q (built_jumpHl _) h)
  case di =>
    exact .inl (q (built_disableInterrupts _) h)
  case ldHLSPE =>
    exact .inl (q (built_ldHlSpE _ _) h)
  case ldSPHL =>
    exact .inl (q (built_ldSpHl _) h)
  case ei =>
    exact .inl (q (built_enableInterrupts _) h)
  case rlcB | rlcC | rlcD | rlcE | rlcH | rlcL | rlcA | rrcB | rrcC | rrcD | rrcE | rrcH | rrcL | rrcA | rlB |
      rlC | rlD | rlE | rlH | rlL | rlA | rrB | rrC | rrD | rrE | rrH | rrL | rrA | slaB | slaC | slaD | slaE
      | slaH | slaL | slaA | sraB | sraC | sraD | sraE | sraH | sraL | sraA | swapB | swapC | swapD | swapE |
      swapH | swapL | swapA | srlB | srlC | srlD | srlE | srlH | srlL | srlA =>
    exact .inl (q (built_rotReg _ _ _) h)
  case rlcAtHL | rrcAtHL | rlAtHL | rrAtHL | slaAtHL | sraAtHL | swapAtHL | srlAtHL =>
    exact .inl (q (built_rotMem _ _) h)
  case bit0B | bit0C | bit0D | bit0E | bit0H | bit0L | bit0A | bit1B | bit1C | bit1D | bit1E | bit1H | bit1L |
      bit1A | bit2B | bit2C | bit2D | bit2E | bit2H | bit2L | bit2A | bit3B | bit3C | bit3D | bit3E | bit3H |
      bit3L | bit3A | bit4B | bit4C | bit4D | bit4E | bit4H | bit4L | bit4A | bit5B | bit5C | bit5D | bit5E |
      bit5H | bit5L | bit5A | bit6B | bit6C | bit6D | bit6E | bit6H | bit6L | bit6A | bit7B | bit7C | bit7D |
      bit7E | bit7H | bit7L | bit7A =>
    exact .inl (q (built_bitReg _ _ _) h)
  case bit0AtHL | bit1AtHL | bit2AtHL | bit3AtHL | bit4AtHL | bit5AtHL | bit6AtHL | bit7AtHL =>
    exact .inl (q (built_bitMem _ _) h)
  case res0B | res0C | res0D | res0E | res0H | res0L | res0A | res1B | res1C | res1D | res1E | res1H | res1L |
      res1A | res2B | res2C | res2D | res2E | res2H | res2L | res2A | res3B | res3C | res3D | res3E | res3H |
      res3L | res3A | res4B | res4C | res4D | res4E | res4H | res4L | res4A | res5B | res5C | res5D | res5E |
      res5H | res5L | res5A | res6B | res6C | res6D | res6E | res6H | res6L | res6A | res7B | res7C | res7D |
      res7E | res7H | res7L | res7A =>
    exact .inl (q (built_resReg _ _ _) h)
  case res0AtHL | res1AtHL | res2AtHL | res3AtHL | res4AtHL | res5AtHL | res6AtHL | res7AtHL =>
    exact .inl (q (built_resMem _ _) h)
  case set0B | set0C | set0D | set0E | set0H | set0L | set0A | set1B | set1C | set1D | set1E | set1H | set1L |
      set1A | set2B | set2C | set2D | set2E | set2H | set2L | set2A | set3B | set3C | set3D | set3E | set3H |
      set3L | set3A | set4B | set4C | set4D | set4E | set4H | set4L | set4A | set5B | set5C | set5D | set5E |
      set5H | set5L | set5A | set6B | set6C | set6D | set6E | set6H | set6L | set6A | set7B | set7C | set7D |
      set7E | set7H | set7L | set7A =>
    exact .inl (q (built_setReg _ _ _) h)
  case set0AtHL | set1AtHL | set2AtHL | set3AtHL | set4AtHL | set5AtHL | set6AtHL | set7AtHL =>
    exact .inl (q (built_setMem _ _) h)

end Sys2Proof.Machine
end

