-- ==== Sys2Proof/Laws/PerInstr.lean ====
section
/-! SUPPORT. A statement made once per constructor of Instr: the length of the encoding is the one byte 0
alone gives (30 R121, R136), and it is the table's. -/

namespace Sys2Proof.Laws

/-- The encoding of `i` is as long as `lengthOfOpcode` says of its first byte, and it is 1 to 3 bytes long. -/
def EncodedLength.Statement (i : Instr) : Prop :=
  (encode i).length = lengthOfOpcode ((encode i).getD 0 0) ∧
    ((encode i).length = 1 ∨ (encode i).length = 2 ∨ (encode i).length = 3)

theorem EncodedLength.nop : EncodedLength.Statement .nop := ⟨rfl, .inl rfl⟩
theorem EncodedLength.ldBCNn (nn : Word) : EncodedLength.Statement (.ldBCNn nn) := ⟨rfl, .inr (.inr rfl)⟩
theorem EncodedLength.ldAtBCA : EncodedLength.Statement .ldAtBCA := ⟨rfl, .inl rfl⟩
theorem EncodedLength.incBC : EncodedLength.Statement .incBC := ⟨rfl, .inl rfl⟩
theorem EncodedLength.incB : EncodedLength.Statement .incB := ⟨rfl, .inl rfl⟩
theorem EncodedLength.decB : EncodedLength.Statement .decB := ⟨rfl, .inl rfl⟩
theorem EncodedLength.ldBN (n : Byte) : EncodedLength.Statement (.ldBN n) := ⟨rfl, .inr (.inl rfl)⟩
theorem EncodedLength.rlca : EncodedLength.Statement .rlca := ⟨rfl, .inl rfl⟩
theorem EncodedLength.ldAtNnSP (nn : Word) : EncodedLength.Statement (.ldAtNnSP nn) := ⟨rfl, .inr (.inr rfl)⟩
theorem EncodedLength.addHLBC : EncodedLength.Statement .addHLBC := ⟨rfl, .inl rfl⟩
theorem EncodedLength.ldAAtBC : EncodedLength.Statement .ldAAtBC := ⟨rfl, .inl rfl⟩
theorem EncodedLength.decBC : EncodedLength.Statement .decBC := ⟨rfl, .inl rfl⟩
theorem EncodedLength.incC : EncodedLength.Statement .incC := ⟨rfl, .inl rfl⟩
theorem EncodedLength.decC : EncodedLength.Statement .decC := ⟨rfl, .inl rfl⟩
theorem EncodedLength.ldCN (n : Byte) : EncodedLength.Statement (.ldCN n) := ⟨rfl, .inr (.inl rfl)⟩
theorem EncodedLength.rrca : EncodedLength.Statement .rrca := ⟨rfl, .inl rfl⟩
theorem EncodedLength.stop : EncodedLength.Statement .stop := ⟨rfl, .inr (.inl rfl)⟩
theorem EncodedLength.ldDENn (nn : Word) : EncodedLength.Statement (.ldDENn nn) := ⟨rfl, .inr (.inr rfl)⟩
theorem EncodedLength.ldAtDEA : EncodedLength.Statement .ldAtDEA := ⟨rfl, .inl rfl⟩
theorem EncodedLength.incDE : EncodedLength.Statement .incDE := ⟨rfl, .inl rfl⟩
theorem EncodedLength.incD : EncodedLength.Statement .incD := ⟨rfl, .inl rfl⟩
theorem EncodedLength.decD : EncodedLength.Statement .decD := ⟨rfl, .inl rfl⟩
theorem EncodedLength.ldDN (n : Byte) : EncodedLength.Statement (.ldDN n) := ⟨rfl, .inr (.inl rfl)⟩
theorem EncodedLength.rla : EncodedLength.Statement .rla := ⟨rfl, .inl rfl⟩
theorem EncodedLength.jr (e : Byte) : EncodedLength.Statement (.jr e) := ⟨rfl, .inr (.inl rfl)⟩
theorem EncodedLength.addHLDE : EncodedLength.Statement .addHLDE := ⟨rfl, .inl rfl⟩
theorem EncodedLength.ldAAtDE : EncodedLength.Statement .ldAAtDE := ⟨rfl, .inl rfl⟩
theorem EncodedLength.decDE : EncodedLength.Statement .decDE := ⟨rfl, .inl rfl⟩
theorem EncodedLength.incE : EncodedLength.Statement .incE := ⟨rfl, .inl rfl⟩
theorem EncodedLength.decE : EncodedLength.Statement .decE := ⟨rfl, .inl rfl⟩
theorem EncodedLength.ldEN (n : Byte) : EncodedLength.Statement (.ldEN n) := ⟨rfl, .inr (.inl rfl)⟩
theorem EncodedLength.rra : EncodedLength.Statement .rra := ⟨rfl, .inl rfl⟩
theorem EncodedLength.jrNZ (e : Byte) : EncodedLength.Statement (.jrNZ e) := ⟨rfl, .inr (.inl rfl)⟩
theorem EncodedLength.ldHLNn (nn : Word) : EncodedLength.Statement (.ldHLNn nn) := ⟨rfl, .inr (.inr rfl)⟩
theorem EncodedLength.ldAtHLIncA : EncodedLength.Statement .ldAtHLIncA := ⟨rfl, .inl rfl⟩
theorem EncodedLength.incHL : EncodedLength.Statement .incHL := ⟨rfl, .inl rfl⟩
theorem EncodedLength.incH : EncodedLength.Statement .incH := ⟨rfl, .inl rfl⟩
theorem EncodedLength.decH : EncodedLength.Statement .decH := ⟨rfl, .inl rfl⟩
theorem EncodedLength.ldHN (n : Byte) : EncodedLength.Statement (.ldHN n) := ⟨rfl, .inr (.inl rfl)⟩
theorem EncodedLength.daa : EncodedLength.Statement .daa := ⟨rfl, .inl rfl⟩
theorem EncodedLength.jrZ (e : Byte) : EncodedLength.Statement (.jrZ e) := ⟨rfl, .inr (.inl rfl)⟩
theorem EncodedLength.addHLHL : EncodedLength.Statement .addHLHL := ⟨rfl, .inl rfl⟩
theorem EncodedLength.ldAAtHLInc : EncodedLength.Statement .ldAAtHLInc := ⟨rfl, .inl rfl⟩
theorem EncodedLength.decHL : EncodedLength.Statement .decHL := ⟨rfl, .inl rfl⟩
theorem EncodedLength.incL : EncodedLength.Statement .incL := ⟨rfl, .inl rfl⟩
theorem EncodedLength.decL : EncodedLength.Statement .decL := ⟨rfl, .inl rfl⟩
theorem EncodedLength.ldLN (n : Byte) : EncodedLength.Statement (.ldLN n) := ⟨rfl, .inr (.inl rfl)⟩
theorem EncodedLength.cpl : EncodedLength.Statement .cpl := ⟨rfl, .inl rfl⟩
theorem EncodedLength.jrNC (e : Byte) : EncodedLength.Statement (.jrNC e) := ⟨rfl, .inr (.inl rfl)⟩
theorem EncodedLength.ldSPNn (nn : Word) : EncodedLength.Statement (.ldSPNn nn) := ⟨rfl, .inr (.inr rfl)⟩
theorem EncodedLength.ldAtHLDecA : EncodedLength.Statement .ldAtHLDecA := ⟨rfl, .inl rfl⟩
theorem EncodedLength.incSP : EncodedLength.Statement .incSP := ⟨rfl, .inl rfl⟩
theorem EncodedLength.incAtHL : EncodedLength.Statement .incAtHL := ⟨rfl, .inl rfl⟩
theorem EncodedLength.decAtHL : EncodedLength.Statement .decAtHL := ⟨rfl, .inl rfl⟩
theorem EncodedLength.ldAtHLN (n : Byte) : EncodedLength.Statement (.ldAtHLN n) := ⟨rfl, .inr (.inl rfl)⟩
theorem EncodedLength.scf : EncodedLength.Statement .scf := ⟨rfl, .inl rfl⟩
theorem EncodedLength.jrC (e : Byte) : EncodedLength.Statement (.jrC e) := ⟨rfl, .inr (.inl rfl)⟩
theorem EncodedLength.addHLSP : EncodedLength.Statement .addHLSP := ⟨rfl, .inl rfl⟩
theorem EncodedLength.ldAAtHLDec : EncodedLength.Statement .ldAAtHLDec := ⟨rfl, .inl rfl⟩
theorem EncodedLength.decSP : EncodedLength.Statement .decSP := ⟨rfl, .inl rfl⟩
theorem EncodedLength.incA : EncodedLength.Statement .incA := ⟨rfl, .inl rfl⟩
theorem EncodedLength.decA : EncodedLength.Statement .decA := ⟨rfl, .inl rfl⟩
theorem EncodedLength.ldAN (n : Byte) : EncodedLength.Statement (.ldAN n) := ⟨rfl, .inr (.inl rfl)⟩
theorem EncodedLength.ccf : EncodedLength.Statement .ccf := ⟨rfl, .inl rfl⟩
theorem EncodedLength.ldBB : EncodedLength.Statement .ldBB := ⟨rfl, .inl rfl⟩
theorem EncodedLength.ldBC : EncodedLength.Statement .ldBC := ⟨rfl, .inl rfl⟩
theorem EncodedLength.ldBD : EncodedLength.Statement .ldBD := ⟨rfl, .inl rfl⟩
theorem EncodedLength.ldBE : EncodedLength.Statement .ldBE := ⟨rfl, .inl rfl⟩
theorem EncodedLength.ldBH : EncodedLength.Statement .ldBH := ⟨rfl, .inl rfl⟩
theorem EncodedLength.ldBL : EncodedLength.Statement .ldBL := ⟨rfl, .inl rfl⟩
theorem EncodedLength.ldBAtHL : EncodedLength.Statement .ldBAtHL := ⟨rfl, .inl rfl⟩
theorem EncodedLength.ldBA : EncodedLength.Statement .ldBA := ⟨rfl, .inl rfl⟩
theorem EncodedLength.ldCB : EncodedLength.Statement .ldCB := ⟨rfl, .inl rfl⟩
theorem EncodedLength.ldCC : EncodedLength.Statement .ldCC := ⟨rfl, .inl rfl⟩
theorem EncodedLength.ldCD : EncodedLength.Statement .ldCD := ⟨rfl, .inl rfl⟩
theorem EncodedLength.ldCE : EncodedLength.Statement .ldCE := ⟨rfl, .inl rfl⟩
theorem EncodedLength.ldCH : EncodedLength.Statement .ldCH := ⟨rfl, .inl rfl⟩
theorem EncodedLength.ldCL : EncodedLength.Statement .ldCL := ⟨rfl, .inl rfl⟩
theorem EncodedLength.ldCAtHL : EncodedLength.Statement .ldCAtHL := ⟨rfl, .inl rfl⟩
theorem EncodedLength.ldCA : EncodedLength.Statement .ldCA := ⟨rfl, .inl rfl⟩
theorem EncodedLength.ldDB : EncodedLength.Statement .ldDB := ⟨rfl, .inl rfl⟩
theorem EncodedLength.ldDC : EncodedLength.Statement .ldDC := ⟨rfl, .inl rfl⟩
theorem EncodedLength.ldDD : EncodedLength.Statement .ldDD := ⟨rfl, .inl rfl⟩
theorem EncodedLength.ldDE : EncodedLength.Statement .ldDE := ⟨rfl, .inl rfl⟩
theorem EncodedLength.ldDH : EncodedLength.Statement .ldDH := ⟨rfl, .inl rfl⟩
theorem EncodedLength.ldDL : EncodedLength.Statement .ldDL := ⟨rfl, .inl rfl⟩
theorem EncodedLength.ldDAtHL : EncodedLength.Statement .ldDAtHL := ⟨rfl, .inl rfl⟩
theorem EncodedLength.ldDA : EncodedLength.Statement .ldDA := ⟨rfl, .inl rfl⟩
theorem EncodedLength.ldEB : EncodedLength.Statement .ldEB := ⟨rfl, .inl rfl⟩
theorem EncodedLength.ldEC : EncodedLength.Statement .ldEC := ⟨rfl, .inl rfl⟩
theorem EncodedLength.ldED : EncodedLength.Statement .ldED := ⟨rfl, .inl rfl⟩
theorem EncodedLength.ldEE : EncodedLength.Statement .ldEE := ⟨rfl, .inl rfl⟩
theorem EncodedLength.ldEH : EncodedLength.Statement .ldEH := ⟨rfl, .inl rfl⟩
theorem EncodedLength.ldEL : EncodedLength.Statement .ldEL := ⟨rfl, .inl rfl⟩
theorem EncodedLength.ldEAtHL : EncodedLength.Statement .ldEAtHL := ⟨rfl, .inl rfl⟩
theorem EncodedLength.ldEA : EncodedLength.Statement .ldEA := ⟨rfl, .inl rfl⟩
theorem EncodedLength.ldHB : EncodedLength.Statement .ldHB := ⟨rfl, .inl rfl⟩
theorem EncodedLength.ldHC : EncodedLength.Statement .ldHC := ⟨rfl, .inl rfl⟩
theorem EncodedLength.ldHD : EncodedLength.Statement .ldHD := ⟨rfl, .inl rfl⟩
theorem EncodedLength.ldHE : EncodedLength.Statement .ldHE := ⟨rfl, .inl rfl⟩
theorem EncodedLength.ldHH : EncodedLength.Statement .ldHH := ⟨rfl, .inl rfl⟩
theorem EncodedLength.ldHL : EncodedLength.Statement .ldHL := ⟨rfl, .inl rfl⟩
theorem EncodedLength.ldHAtHL : EncodedLength.Statement .ldHAtHL := ⟨rfl, .inl rfl⟩
theorem EncodedLength.ldHA : EncodedLength.Statement .ldHA := ⟨rfl, .inl rfl⟩
theorem EncodedLength.ldLB : EncodedLength.Statement .ldLB := ⟨rfl, .inl rfl⟩
theorem EncodedLength.ldLC : EncodedLength.Statement .ldLC := ⟨rfl, .inl rfl⟩
theorem EncodedLength.ldLD : EncodedLength.Statement .ldLD := ⟨rfl, .inl rfl⟩
theorem EncodedLength.ldLE : EncodedLength.Statement .ldLE := ⟨rfl, .inl rfl⟩
theorem EncodedLength.ldLH : EncodedLength.Statement .ldLH := ⟨rfl, .inl rfl⟩
theorem EncodedLength.ldLL : EncodedLength.Statement .ldLL := ⟨rfl, .inl rfl⟩
theorem EncodedLength.ldLAtHL : EncodedLength.Statement .ldLAtHL := ⟨rfl, .inl rfl⟩
theorem EncodedLength.ldLA : EncodedLength.Statement .ldLA := ⟨rfl, .inl rfl⟩
theorem EncodedLength.ldAtHLB : EncodedLength.Statement .ldAtHLB := ⟨rfl, .inl rfl⟩
theorem EncodedLength.ldAtHLC : EncodedLength.Statement .ldAtHLC := ⟨rfl, .inl rfl⟩
theorem EncodedLength.ldAtHLD : EncodedLength.Statement .ldAtHLD := ⟨rfl, .inl rfl⟩
theorem EncodedLength.ldAtHLE : EncodedLength.Statement .ldAtHLE := ⟨rfl, .inl rfl⟩
theorem EncodedLength.ldAtHLH : EncodedLength.Statement .ldAtHLH := ⟨rfl, .inl rfl⟩
theorem EncodedLength.ldAtHLL : EncodedLength.Statement .ldAtHLL := ⟨rfl, .inl rfl⟩
theorem EncodedLength.halt : EncodedLength.Statement .halt := ⟨rfl, .inl rfl⟩
theorem EncodedLength.ldAtHLA : EncodedLength.Statement .ldAtHLA := ⟨rfl, .inl rfl⟩
theorem EncodedLength.ldAB : EncodedLength.Statement .ldAB := ⟨rfl, .inl rfl⟩
theorem EncodedLength.ldAC : EncodedLength.Statement .ldAC := ⟨rfl, .inl rfl⟩
theorem EncodedLength.ldAD : EncodedLength.Statement .ldAD := ⟨rfl, .inl rfl⟩
theorem EncodedLength.ldAE : EncodedLength.Statement .ldAE := ⟨rfl, .inl rfl⟩
theorem EncodedLength.ldAH : EncodedLength.Statement .ldAH := ⟨rfl, .inl rfl⟩
theorem EncodedLength.ldAL : EncodedLength.Statement .ldAL := ⟨rfl, .inl rfl⟩
theorem EncodedLength.ldAAtHL : EncodedLength.Statement .ldAAtHL := ⟨rfl, .inl rfl⟩
theorem EncodedLength.ldAA : EncodedLength.Statement .ldAA := ⟨rfl, .inl rfl⟩
theorem EncodedLength.addAB : EncodedLength.Statement .addAB := ⟨rfl, .inl rfl⟩
theorem EncodedLength.addAC : EncodedLength.Statement .addAC := ⟨rfl, .inl rfl⟩
theorem EncodedLength.addAD : EncodedLength.Statement .addAD := ⟨rfl, .inl rfl⟩
theorem EncodedLength.addAE : EncodedLength.Statement .addAE := ⟨rfl, .inl rfl⟩
theorem EncodedLength.addAH : EncodedLength.Statement .addAH := ⟨rfl, .inl rfl⟩
theorem EncodedLength.addAL : EncodedLength.Statement .addAL := ⟨rfl, .inl rfl⟩
theorem EncodedLength.addAAtHL : EncodedLength.Statement .addAAtHL := ⟨rfl, .inl rfl⟩
theorem EncodedLength.addAA : EncodedLength.Statement .addAA := ⟨rfl, .inl rfl⟩
theorem EncodedLength.adcAB : EncodedLength.Statement .adcAB := ⟨rfl, .inl rfl⟩
theorem EncodedLength.adcAC : EncodedLength.Statement .adcAC := ⟨rfl, .inl rfl⟩
theorem EncodedLength.adcAD : EncodedLength.Statement .adcAD := ⟨rfl, .inl rfl⟩
theorem EncodedLength.adcAE : EncodedLength.Statement .adcAE := ⟨rfl, .inl rfl⟩
theorem EncodedLength.adcAH : EncodedLength.Statement .adcAH := ⟨rfl, .inl rfl⟩
theorem EncodedLength.adcAL : EncodedLength.Statement .adcAL := ⟨rfl, .inl rfl⟩
theorem EncodedLength.adcAAtHL : EncodedLength.Statement .adcAAtHL := ⟨rfl, .inl rfl⟩
theorem EncodedLength.adcAA : EncodedLength.Statement .adcAA := ⟨rfl, .inl rfl⟩
theorem EncodedLength.subB : EncodedLength.Statement .subB := ⟨rfl, .inl rfl⟩
theorem EncodedLength.subC : EncodedLength.Statement .subC := ⟨rfl, .inl rfl⟩
theorem EncodedLength.subD : EncodedLength.Statement .subD := ⟨rfl, .inl rfl⟩
theorem EncodedLength.subE : EncodedLength.Statement .subE := ⟨rfl, .inl rfl⟩
theorem EncodedLength.subH : EncodedLength.Statement .subH := ⟨rfl, .inl rfl⟩
theorem EncodedLength.subL : EncodedLength.Statement .subL := ⟨rfl, .inl rfl⟩
theorem EncodedLength.subAtHL : EncodedLength.Statement .subAtHL := ⟨rfl, .inl rfl⟩
theorem EncodedLength.subA : EncodedLength.Statement .subA := ⟨rfl, .inl rfl⟩
theorem EncodedLength.sbcAB : EncodedLength.Statement .sbcAB := ⟨rfl, .inl rfl⟩
theorem EncodedLength.sbcAC : EncodedLength.Statement .sbcAC := ⟨rfl, .inl rfl⟩
theorem EncodedLength.sbcAD : EncodedLength.Statement .sbcAD := ⟨rfl, .inl rfl⟩
theorem EncodedLength.sbcAE : EncodedLength.Statement .sbcAE := ⟨rfl, .inl rfl⟩
theorem EncodedLength.sbcAH : EncodedLength.Statement .sbcAH := ⟨rfl, .inl rfl⟩
theorem EncodedLength.sbcAL : EncodedLength.Statement .sbcAL := ⟨rfl, .inl rfl⟩
theorem EncodedLength.sbcAAtHL : EncodedLength.Statement .sbcAAtHL := ⟨rfl, .inl rfl⟩
theorem EncodedLength.sbcAA : EncodedLength.Statement .sbcAA := ⟨rfl, .inl rfl⟩
theorem EncodedLength.andB : EncodedLength.Statement .andB := ⟨rfl, .inl rfl⟩
theorem EncodedLength.andC : EncodedLength.Statement .andC := ⟨rfl, .inl rfl⟩
theorem EncodedLength.andD : EncodedLength.Statement .andD := ⟨rfl, .inl rfl⟩
theorem EncodedLength.andE : EncodedLength.Statement .andE := ⟨rfl, .inl rfl⟩
theorem EncodedLength.andH : EncodedLength.Statement .andH := ⟨rfl, .inl rfl⟩
theorem EncodedLength.andL : EncodedLength.Statement .andL := ⟨rfl, .inl rfl⟩
theorem EncodedLength.andAtHL : EncodedLength.Statement .andAtHL := ⟨rfl, .inl rfl⟩
theorem EncodedLength.andA : EncodedLength.Statement .andA := ⟨rfl, .inl rfl⟩
theorem EncodedLength.xorB : EncodedLength.Statement .xorB := ⟨rfl, .inl rfl⟩
theorem EncodedLength.xorC : EncodedLength.Statement .xorC := ⟨rfl, .inl rfl⟩
theorem EncodedLength.xorD : EncodedLength.Statement .xorD := ⟨rfl, .inl rfl⟩
theorem EncodedLength.xorE : EncodedLength.Statement .xorE := ⟨rfl, .inl rfl⟩
theorem EncodedLength.xorH : EncodedLength.Statement .xorH := ⟨rfl, .inl rfl⟩
theorem EncodedLength.xorL : EncodedLength.Statement .xorL := ⟨rfl, .inl rfl⟩
theorem EncodedLength.xorAtHL : EncodedLength.Statement .xorAtHL := ⟨rfl, .inl rfl⟩
theorem EncodedLength.xorA : EncodedLength.Statement .xorA := ⟨rfl, .inl rfl⟩
theorem EncodedLength.orB : EncodedLength.Statement .orB := ⟨rfl, .inl rfl⟩
theorem EncodedLength.orC : EncodedLength.Statement .orC := ⟨rfl, .inl rfl⟩
theorem EncodedLength.orD : EncodedLength.Statement .orD := ⟨rfl, .inl rfl⟩
theorem EncodedLength.orE : EncodedLength.Statement .orE := ⟨rfl, .inl rfl⟩
theorem EncodedLength.orH : EncodedLength.Statement .orH := ⟨rfl, .inl rfl⟩
theorem EncodedLength.orL : EncodedLength.Statement .orL := ⟨rfl, .inl rfl⟩
theorem EncodedLength.orAtHL : EncodedLength.Statement .orAtHL := ⟨rfl, .inl rfl⟩
theorem EncodedLength.orA : EncodedLength.Statement .orA := ⟨rfl, .inl rfl⟩
theorem EncodedLength.cpB : EncodedLength.Statement .cpB := ⟨rfl, .inl rfl⟩
theorem EncodedLength.cpC : EncodedLength.Statement .cpC := ⟨rfl, .inl rfl⟩
theorem EncodedLength.cpD : EncodedLength.Statement .cpD := ⟨rfl, .inl rfl⟩
theorem EncodedLength.cpE : EncodedLength.Statement .cpE := ⟨rfl, .inl rfl⟩
theorem EncodedLength.cpH : EncodedLength.Statement .cpH := ⟨rfl, .inl rfl⟩
theorem EncodedLength.cpL : EncodedLength.Statement .cpL := ⟨rfl, .inl rfl⟩
theorem EncodedLength.cpAtHL : EncodedLength.Statement .cpAtHL := ⟨rfl, .inl rfl⟩
theorem EncodedLength.cpA : EncodedLength.Statement .cpA := ⟨rfl, .inl rfl⟩
theorem EncodedLength.retNZ : EncodedLength.Statement .retNZ := ⟨rfl, .inl rfl⟩
theorem EncodedLength.popBC : EncodedLength.Statement .popBC := ⟨rfl, .inl rfl⟩
theorem EncodedLength.jpNZ (nn : Word) : EncodedLength.Statement (.jpNZ nn) := ⟨rfl, .inr (.inr rfl)⟩
theorem EncodedLength.jp (nn : Word) : EncodedLength.Statement (.jp nn) := ⟨rfl, .inr (.inr rfl)⟩
theorem EncodedLength.callNZ (nn : Word) : EncodedLength.Statement (.callNZ nn) := ⟨rfl, .inr (.inr rfl)⟩
theorem EncodedLength.pushBC : EncodedLength.Statement .pushBC := ⟨rfl, .inl rfl⟩
theorem EncodedLength.addAN (n : Byte) : EncodedLength.Statement (.addAN n) := ⟨rfl, .inr (.inl rfl)⟩
theorem EncodedLength.rst00 : EncodedLength.Statement .rst00 := ⟨rfl, .inl rfl⟩
theorem EncodedLength.retZ : EncodedLength.Statement .retZ := ⟨rfl, .inl rfl⟩
theorem EncodedLength.ret : EncodedLength.Statement .ret := ⟨rfl, .inl rfl⟩
theorem EncodedLength.jpZ (nn : Word) : EncodedLength.Statement (.jpZ nn) := ⟨rfl, .inr (.inr rfl)⟩
theorem EncodedLength.callZ (nn : Word) : EncodedLength.Statement (.callZ nn) := ⟨rfl, .inr (.inr rfl)⟩
theorem EncodedLength.call (nn : Word) : EncodedLength.Statement (.call nn) := ⟨rfl, .inr (.inr rfl)⟩
theorem EncodedLength.adcAN (n : Byte) : EncodedLength.Statement (.adcAN n) := ⟨rfl, .inr (.inl rfl)⟩
theorem EncodedLength.rst08 : EncodedLength.Statement .rst08 := ⟨rfl, .inl rfl⟩
theorem EncodedLength.retNC : EncodedLength.Statement .retNC := ⟨rfl, .inl rfl⟩
theorem EncodedLength.popDE : EncodedLength.Statement .popDE := ⟨rfl, .inl rfl⟩
theorem EncodedLength.jpNC (nn : Word) : EncodedLength.Statement (.jpNC nn) := ⟨rfl, .inr (.inr rfl)⟩
theorem EncodedLength.illegalD3 : EncodedLength.Statement .illegalD3 := ⟨rfl, .inl rfl⟩
theorem EncodedLength.callNC (nn : Word) : EncodedLength.Statement (.callNC nn) := ⟨rfl, .inr (.inr rfl)⟩
theorem EncodedLength.pushDE : EncodedLength.Statement .pushDE := ⟨rfl, .inl rfl⟩
theorem EncodedLength.subN (n : Byte) : EncodedLength.Statement (.subN n) := ⟨rfl, .inr (.inl rfl)⟩
theorem EncodedLength.rst10 : EncodedLength.Statement .rst10 := ⟨rfl, .inl rfl⟩
theorem EncodedLength.retC : EncodedLength.Statement .retC := ⟨rfl, .inl rfl⟩
theorem EncodedLength.reti : EncodedLength.Statement .reti := ⟨rfl, .inl rfl⟩
theorem EncodedLength.jpC (nn : Word) : EncodedLength.Statement (.jpC nn) := ⟨rfl, .inr (.inr rfl)⟩
theorem EncodedLength.illegalDB : EncodedLength.Statement .illegalDB := ⟨rfl, .inl rfl⟩
theorem EncodedLength.callC (nn : Word) : EncodedLength.Statement (.callC nn) := ⟨rfl, .inr (.inr rfl)⟩
theorem EncodedLength.illegalDD : EncodedLength.Statement .illegalDD := ⟨rfl, .inl rfl⟩
theorem EncodedLength.sbcAN (n : Byte) : EncodedLength.Statement (.sbcAN n) := ⟨rfl, .inr (.inl rfl)⟩
theorem EncodedLength.rst18 : EncodedLength.Statement .rst18 := ⟨rfl, .inl rfl⟩
theorem EncodedLength.ldhAtNA (n : Byte) : EncodedLength.Statement (.ldhAtNA n) := ⟨rfl, .inr (.inl rfl)⟩
theorem EncodedLength.popHL : EncodedLength.Statement .popHL := ⟨rfl, .inl rfl⟩
theorem EncodedLength.ldhAtCA : EncodedLength.Statement .ldhAtCA := ⟨rfl, .inl rfl⟩
theorem EncodedLength.illegalE3 : EncodedLength.Statement .illegalE3 := ⟨rfl, .inl rfl⟩
theorem EncodedLength.illegalE4 : EncodedLength.Statement .illegalE4 := ⟨rfl, .inl rfl⟩
theorem EncodedLength.pushHL : EncodedLength.Statement .pushHL := ⟨rfl, .inl rfl⟩
theorem EncodedLength.andN (n : Byte) : EncodedLength.Statement (.andN n) := ⟨rfl, .inr (.inl rfl)⟩
theorem EncodedLength.rst20 : EncodedLength.Statement .rst20 := ⟨rfl, .inl rfl⟩
theorem EncodedLength.addSPE (e : Byte) : EncodedLength.Statement (.addSPE e) := ⟨rfl, .inr (.inl rfl)⟩
theorem EncodedLength.jpHL : EncodedLength.Statement .jpHL := ⟨rfl, .inl rfl⟩
theorem EncodedLength.ldAtNnA (nn : Word) : EncodedLength.Statement (.ldAtNnA nn) := ⟨rfl, .inr (.inr rfl)⟩
theorem EncodedLength.illegalEB : EncodedLength.Statement .illegalEB := ⟨rfl, .inl rfl⟩
theorem EncodedLength.illegalEC : EncodedLength.Statement .illegalEC := ⟨rfl, .inl rfl⟩
theorem EncodedLength.illegalED : EncodedLength.Statement .illegalED := ⟨rfl, .inl rfl⟩
theorem EncodedLength.xorN (n : Byte) : EncodedLength.Statement (.xorN n) := ⟨rfl, .inr (.inl rfl)⟩
theorem EncodedLength.rst28 : EncodedLength.Statement .rst28 := ⟨rfl, .inl rfl⟩
theorem EncodedLength.ldhAAtN (n : Byte) : EncodedLength.Statement (.ldhAAtN n) := ⟨rfl, .inr (.inl rfl)⟩
theorem EncodedLength.popAF : EncodedLength.Statement .popAF := ⟨rfl, .inl rfl⟩
theorem EncodedLength.ldhAAtC : EncodedLength.Statement .ldhAAtC := ⟨rfl, .inl rfl⟩
theorem EncodedLength.di : EncodedLength.Statement .di := ⟨rfl, .inl rfl⟩
theorem EncodedLength.illegalF4 : EncodedLength.Statement .illegalF4 := ⟨rfl, .inl rfl⟩
theorem EncodedLength.pushAF : EncodedLength.Statement .pushAF := ⟨rfl, .inl rfl⟩
theorem EncodedLength.orN (n : Byte) : EncodedLength.Statement (.orN n) := ⟨rfl, .inr (.inl rfl)⟩
theorem EncodedLength.rst30 : EncodedLength.Statement .rst30 := ⟨rfl, .inl rfl⟩
theorem EncodedLength.ldHLSPE (e : Byte) : EncodedLength.Statement (.ldHLSPE e) := ⟨rfl, .inr (.inl rfl)⟩
theorem EncodedLength.ldSPHL : EncodedLength.Statement .ldSPHL := ⟨rfl, .inl rfl⟩
theorem EncodedLength.ldAAtNn (nn : Word) : EncodedLength.Statement (.ldAAtNn nn) := ⟨rfl, .inr (.inr rfl)⟩
theorem EncodedLength.ei : EncodedLength.Statement .ei := ⟨rfl, .inl rfl⟩
theorem EncodedLength.illegalFC : EncodedLength.Statement .illegalFC := ⟨rfl, .inl rfl⟩
theorem EncodedLength.illegalFD : EncodedLength.Statement .illegalFD := ⟨rfl, .inl rfl⟩
theorem EncodedLength.cpN (n : Byte) : EncodedLength.Statement (.cpN n) := ⟨rfl, .inr (.inl rfl)⟩
theorem EncodedLength.rst38 : EncodedLength.Statement .rst38 := ⟨rfl, .inl rfl⟩
theorem EncodedLength.rlcB : EncodedLength.Statement .rlcB := ⟨rfl, .inr (.inl rfl)⟩
theorem EncodedLength.rlcC : EncodedLength.Statement .rlcC := ⟨rfl, .inr (.inl rfl)⟩
theorem EncodedLength.rlcD : EncodedLength.Statement .rlcD := ⟨rfl, .inr (.inl rfl)⟩
theorem EncodedLength.rlcE : EncodedLength.Statement .rlcE := ⟨rfl, .inr (.inl rfl)⟩
theorem EncodedLength.rlcH : EncodedLength.Statement .rlcH := ⟨rfl, .inr (.inl rfl)⟩
theorem EncodedLength.rlcL : EncodedLength.Statement .rlcL := ⟨rfl, .inr (.inl rfl)⟩
theorem EncodedLength.rlcAtHL : EncodedLength.Statement .rlcAtHL := ⟨rfl, .inr (.inl rfl)⟩
theorem EncodedLength.rlcA : EncodedLength.Statement .rlcA := ⟨rfl, .inr (.inl rfl)⟩
theorem EncodedLength.rrcB : EncodedLength.Statement .rrcB := ⟨rfl, .inr (.inl rfl)⟩
theorem EncodedLength.rrcC : EncodedLength.Statement .rrcC := ⟨rfl, .inr (.inl rfl)⟩
theorem EncodedLength.rrcD : EncodedLength.Statement .rrcD := ⟨rfl, .inr (.inl rfl)⟩
theorem EncodedLength.rrcE : EncodedLength.Statement .rrcE := ⟨rfl, .inr (.inl rfl)⟩
theorem EncodedLength.rrcH : EncodedLength.Statement .rrcH := ⟨rfl, .inr (.inl rfl)⟩
theorem EncodedLength.rrcL : EncodedLength.Statement .rrcL := ⟨rfl, .inr (.inl rfl)⟩
theorem EncodedLength.rrcAtHL : EncodedLength.Statement .rrcAtHL := ⟨rfl, .inr (.inl rfl)⟩
theorem EncodedLength.rrcA : EncodedLength.Statement .rrcA := ⟨rfl, .inr (.inl rfl)⟩
theorem EncodedLength.rlB : EncodedLength.Statement .rlB := ⟨rfl, .inr (.inl rfl)⟩
theorem EncodedLength.rlC : EncodedLength.Statement .rlC := ⟨rfl, .inr (.inl rfl)⟩
theorem EncodedLength.rlD : EncodedLength.Statement .rlD := ⟨rfl, .inr (.inl rfl)⟩
theorem EncodedLength.rlE : EncodedLength.Statement .rlE := ⟨rfl, .inr (.inl rfl)⟩
theorem EncodedLength.rlH : EncodedLength.Statement .rlH := ⟨rfl, .inr (.inl rfl)⟩
theorem EncodedLength.rlL : EncodedLength.Statement .rlL := ⟨rfl, .inr (.inl rfl)⟩
theorem EncodedLength.rlAtHL : EncodedLength.Statement .rlAtHL := ⟨rfl, .inr (.inl rfl)⟩
theorem EncodedLength.rlA : EncodedLength.Statement .rlA := ⟨rfl, .inr (.inl rfl)⟩
theorem EncodedLength.rrB : EncodedLength.Statement .rrB := ⟨rfl, .inr (.inl rfl)⟩
theorem EncodedLength.rrC : EncodedLength.Statement .rrC := ⟨rfl, .inr (.inl rfl)⟩
theorem EncodedLength.rrD : EncodedLength.Statement .rrD := ⟨rfl, .inr (.inl rfl)⟩
theorem EncodedLength.rrE : EncodedLength.Statement .rrE := ⟨rfl, .inr (.inl rfl)⟩
theorem EncodedLength.rrH : EncodedLength.Statement .rrH := ⟨rfl, .inr (.inl rfl)⟩
theorem EncodedLength.rrL : EncodedLength.Statement .rrL := ⟨rfl, .inr (.inl rfl)⟩
theorem EncodedLength.rrAtHL : EncodedLength.Statement .rrAtHL := ⟨rfl, .inr (.inl rfl)⟩
theorem EncodedLength.rrA : EncodedLength.Statement .rrA := ⟨rfl, .inr (.inl rfl)⟩
theorem EncodedLength.slaB : EncodedLength.Statement .slaB := ⟨rfl, .inr (.inl rfl)⟩
theorem EncodedLength.slaC : EncodedLength.Statement .slaC := ⟨rfl, .inr (.inl rfl)⟩
theorem EncodedLength.slaD : EncodedLength.Statement .slaD := ⟨rfl, .inr (.inl rfl)⟩
theorem EncodedLength.slaE : EncodedLength.Statement .slaE := ⟨rfl, .inr (.inl rfl)⟩
theorem EncodedLength.slaH : EncodedLength.Statement .slaH := ⟨rfl, .inr (.inl rfl)⟩
theorem EncodedLength.slaL : EncodedLength.Statement .slaL := ⟨rfl, .inr (.inl rfl)⟩
theorem EncodedLength.slaAtHL : EncodedLength.Statement .slaAtHL := ⟨rfl, .inr (.inl rfl)⟩
theorem EncodedLength.slaA : EncodedLength.Statement .slaA := ⟨rfl, .inr (.inl rfl)⟩
theorem EncodedLength.sraB : EncodedLength.Statement .sraB := ⟨rfl, .inr (.inl rfl)⟩
theorem EncodedLength.sraC : EncodedLength.Statement .sraC := ⟨rfl, .inr (.inl rfl)⟩
theorem EncodedLength.sraD : EncodedLength.Statement .sraD := ⟨rfl, .inr (.inl rfl)⟩
theorem EncodedLength.sraE : EncodedLength.Statement .sraE := ⟨rfl, .inr (.inl rfl)⟩
theorem EncodedLength.sraH : EncodedLength.Statement .sraH := ⟨rfl, .inr (.inl rfl)⟩
theorem EncodedLength.sraL : EncodedLength.Statement .sraL := ⟨rfl, .inr (.inl rfl)⟩
theorem EncodedLength.sraAtHL : EncodedLength.Statement .sraAtHL := ⟨rfl, .inr (.inl rfl)⟩
theorem EncodedLength.sraA : EncodedLength.Statement .sraA := ⟨rfl, .inr (.inl rfl)⟩
theorem EncodedLength.swapB : EncodedLength.Statement .swapB := ⟨rfl, .inr (.inl rfl)⟩
theorem EncodedLength.swapC : EncodedLength.Statement .swapC := ⟨rfl, .inr (.inl rfl)⟩
theorem EncodedLength.swapD : EncodedLength.Statement .swapD := ⟨rfl, .inr (.inl rfl)⟩
theorem EncodedLength.swapE : EncodedLength.Statement .swapE := ⟨rfl, .inr (.inl rfl)⟩
theorem EncodedLength.swapH : EncodedLength.Statement .swapH := ⟨rfl, .inr (.inl rfl)⟩
theorem EncodedLength.swapL : EncodedLength.Statement .swapL := ⟨rfl, .inr (.inl rfl)⟩
theorem EncodedLength.swapAtHL : EncodedLength.Statement .swapAtHL := ⟨rfl, .inr (.inl rfl)⟩
theorem EncodedLength.swapA : EncodedLength.Statement .swapA := ⟨rfl, .inr (.inl rfl)⟩
theorem EncodedLength.srlB : EncodedLength.Statement .srlB := ⟨rfl, .inr (.inl rfl)⟩
theorem EncodedLength.srlC : EncodedLength.Statement .srlC := ⟨rfl, .inr (.inl rfl)⟩
theorem EncodedLength.srlD : EncodedLength.Statement .srlD := ⟨rfl, .inr (.inl rfl)⟩
theorem EncodedLength.srlE : EncodedLength.Statement .srlE := ⟨rfl, .inr (.inl rfl)⟩
theorem EncodedLength.srlH : EncodedLength.Statement .srlH := ⟨rfl, .inr (.inl rfl)⟩
theorem EncodedLength.srlL : EncodedLength.Statement .srlL := ⟨rfl, .inr (.inl rfl)⟩
theorem EncodedLength.srlAtHL : EncodedLength.Statement .srlAtHL := ⟨rfl, .inr (.inl rfl)⟩
theorem EncodedLength.srlA : EncodedLength.Statement .srlA := ⟨rfl, .inr (.inl rfl)⟩
theorem EncodedLength.bit0B : EncodedLength.Statement .bit0B := ⟨rfl, .inr (.inl rfl)⟩
theorem EncodedLength.bit0C : EncodedLength.Statement .bit0C := ⟨rfl, .inr (.inl rfl)⟩
theorem EncodedLength.bit0D : EncodedLength.Statement .bit0D := ⟨rfl, .inr (.inl rfl)⟩
theorem EncodedLength.bit0E : EncodedLength.Statement .bit0E := ⟨rfl, .inr (.inl rfl)⟩
theorem EncodedLength.bit0H : EncodedLength.Statement .bit0H := ⟨rfl, .inr (.inl rfl)⟩
theorem EncodedLength.bit0L : EncodedLength.Statement .bit0L := ⟨rfl, .inr (.inl rfl)⟩
theorem EncodedLength.bit0AtHL : EncodedLength.Statement .bit0AtHL := ⟨rfl, .inr (.inl rfl)⟩
theorem EncodedLength.bit0A : EncodedLength.Statement .bit0A := ⟨rfl, .inr (.inl rfl)⟩
theorem EncodedLength.bit1B : EncodedLength.Statement .bit1B := ⟨rfl, .inr (.inl rfl)⟩
theorem EncodedLength.bit1C : EncodedLength.Statement .bit1C := ⟨rfl, .inr (.inl rfl)⟩
theorem EncodedLength.bit1D : EncodedLength.Statement .bit1D := ⟨rfl, .inr (.inl rfl)⟩
theorem EncodedLength.bit1E : EncodedLength.Statement .bit1E := ⟨rfl, .inr (.inl rfl)⟩
theorem EncodedLength.bit1H : EncodedLength.Statement .bit1H := ⟨rfl, .inr (.inl rfl)⟩
theorem EncodedLength.bit1L : EncodedLength.Statement .bit1L := ⟨rfl, .inr (.inl rfl)⟩
theorem EncodedLength.bit1AtHL : EncodedLength.Statement .bit1AtHL := ⟨rfl, .inr (.inl rfl)⟩
theorem EncodedLength.bit1A : EncodedLength.Statement .bit1A := ⟨rfl, .inr (.inl rfl)⟩
theorem EncodedLength.bit2B : EncodedLength.Statement .bit2B := ⟨rfl, .inr (.inl rfl)⟩
theorem EncodedLength.bit2C : EncodedLength.Statement .bit2C := ⟨rfl, .inr (.inl rfl)⟩
theorem EncodedLength.bit2D : EncodedLength.Statement .bit2D := ⟨rfl, .inr (.inl rfl)⟩
theorem EncodedLength.bit2E : EncodedLength.Statement .bit2E := ⟨rfl, .inr (.inl rfl)⟩
theorem EncodedLength.bit2H : EncodedLength.Statement .bit2H := ⟨rfl, .inr (.inl rfl)⟩
theorem EncodedLength.bit2L : EncodedLength.Statement .bit2L := ⟨rfl, .inr (.inl rfl)⟩
theorem EncodedLength.bit2AtHL : EncodedLength.Statement .bit2AtHL := ⟨rfl, .inr (.inl rfl)⟩
theorem EncodedLength.bit2A : EncodedLength.Statement .bit2A := ⟨rfl, .inr (.inl rfl)⟩
theorem EncodedLength.bit3B : EncodedLength.Statement .bit3B := ⟨rfl, .inr (.inl rfl)⟩
theorem EncodedLength.bit3C : EncodedLength.Statement .bit3C := ⟨rfl, .inr (.inl rfl)⟩
theorem EncodedLength.bit3D : EncodedLength.Statement .bit3D := ⟨rfl, .inr (.inl rfl)⟩
theorem EncodedLength.bit3E : EncodedLength.Statement .bit3E := ⟨rfl, .inr (.inl rfl)⟩
theorem EncodedLength.bit3H : EncodedLength.Statement .bit3H := ⟨rfl, .inr (.inl rfl)⟩
theorem EncodedLength.bit3L : EncodedLength.Statement .bit3L := ⟨rfl, .inr (.inl rfl)⟩
theorem EncodedLength.bit3AtHL : EncodedLength.Statement .bit3AtHL := ⟨rfl, .inr (.inl rfl)⟩
theorem EncodedLength.bit3A : EncodedLength.Statement .bit3A := ⟨rfl, .inr (.inl rfl)⟩
theorem EncodedLength.bit4B : EncodedLength.Statement .bit4B := ⟨rfl, .inr (.inl rfl)⟩
theorem EncodedLength.bit4C : EncodedLength.Statement .bit4C := ⟨rfl, .inr (.inl rfl)⟩
theorem EncodedLength.bit4D : EncodedLength.Statement .bit4D := ⟨rfl, .inr (.inl rfl)⟩
theorem EncodedLength.bit4E : EncodedLength.Statement .bit4E := ⟨rfl, .inr (.inl rfl)⟩
theorem EncodedLength.bit4H : EncodedLength.Statement .bit4H := ⟨rfl, .inr (.inl rfl)⟩
theorem EncodedLength.bit4L : EncodedLength.Statement .bit4L := ⟨rfl, .inr (.inl rfl)⟩
theorem EncodedLength.bit4AtHL : EncodedLength.Statement .bit4AtHL := ⟨rfl, .inr (.inl rfl)⟩
theorem EncodedLength.bit4A : EncodedLength.Statement .bit4A := ⟨rfl, .inr (.inl rfl)⟩
theorem EncodedLength.bit5B : EncodedLength.Statement .bit5B := ⟨rfl, .inr (.inl rfl)⟩
theorem EncodedLength.bit5C : EncodedLength.Statement .bit5C := ⟨rfl, .inr (.inl rfl)⟩
theorem EncodedLength.bit5D : EncodedLength.Statement .bit5D := ⟨rfl, .inr (.inl rfl)⟩
theorem EncodedLength.bit5E : EncodedLength.Statement .bit5E := ⟨rfl, .inr (.inl rfl)⟩
theorem EncodedLength.bit5H : EncodedLength.Statement .bit5H := ⟨rfl, .inr (.inl rfl)⟩
theorem EncodedLength.bit5L : EncodedLength.Statement .bit5L := ⟨rfl, .inr (.inl rfl)⟩
theorem EncodedLength.bit5AtHL : EncodedLength.Statement .bit5AtHL := ⟨rfl, .inr (.inl rfl)⟩
theorem EncodedLength.bit5A : EncodedLength.Statement .bit5A := ⟨rfl, .inr (.inl rfl)⟩
theorem EncodedLength.bit6B : EncodedLength.Statement .bit6B := ⟨rfl, .inr (.inl rfl)⟩
theorem EncodedLength.bit6C : EncodedLength.Statement .bit6C := ⟨rfl, .inr (.inl rfl)⟩
theorem EncodedLength.bit6D : EncodedLength.Statement .bit6D := ⟨rfl, .inr (.inl rfl)⟩
theorem EncodedLength.bit6E : EncodedLength.Statement .bit6E := ⟨rfl, .inr (.inl rfl)⟩
theorem EncodedLength.bit6H : EncodedLength.Statement .bit6H := ⟨rfl, .inr (.inl rfl)⟩
theorem EncodedLength.bit6L : EncodedLength.Statement .bit6L := ⟨rfl, .inr (.inl rfl)⟩
theorem EncodedLength.bit6AtHL : EncodedLength.Statement .bit6AtHL := ⟨rfl, .inr (.inl rfl)⟩
theorem EncodedLength.bit6A : EncodedLength.Statement .bit6A := ⟨rfl, .inr (.inl rfl)⟩
theorem EncodedLength.bit7B : EncodedLength.Statement .bit7B := ⟨rfl, .inr (.inl rfl)⟩
theorem EncodedLength.bit7C : EncodedLength.Statement .bit7C := ⟨rfl, .inr (.inl rfl)⟩
theorem EncodedLength.bit7D : EncodedLength.Statement .bit7D := ⟨rfl, .inr (.inl rfl)⟩
theorem EncodedLength.bit7E : EncodedLength.Statement .bit7E := ⟨rfl, .inr (.inl rfl)⟩
theorem EncodedLength.bit7H : EncodedLength.Statement .bit7H := ⟨rfl, .inr (.inl rfl)⟩
theorem EncodedLength.bit7L : EncodedLength.Statement .bit7L := ⟨rfl, .inr (.inl rfl)⟩
theorem EncodedLength.bit7AtHL : EncodedLength.Statement .bit7AtHL := ⟨rfl, .inr (.inl rfl)⟩
theorem EncodedLength.bit7A : EncodedLength.Statement .bit7A := ⟨rfl, .inr (.inl rfl)⟩
theorem EncodedLength.res0B : EncodedLength.Statement .res0B := ⟨rfl, .inr (.inl rfl)⟩
theorem EncodedLength.res0C : EncodedLength.Statement .res0C := ⟨rfl, .inr (.inl rfl)⟩
theorem EncodedLength.res0D : EncodedLength.Statement .res0D := ⟨rfl, .inr (.inl rfl)⟩
theorem EncodedLength.res0E : EncodedLength.Statement .res0E := ⟨rfl, .inr (.inl rfl)⟩
theorem EncodedLength.res0H : EncodedLength.Statement .res0H := ⟨rfl, .inr (.inl rfl)⟩
theorem EncodedLength.res0L : EncodedLength.Statement .res0L := ⟨rfl, .inr (.inl rfl)⟩
theorem EncodedLength.res0AtHL : EncodedLength.Statement .res0AtHL := ⟨rfl, .inr (.inl rfl)⟩
theorem EncodedLength.res0A : EncodedLength.Statement .res0A := ⟨rfl, .inr (.inl rfl)⟩
theorem EncodedLength.res1B : EncodedLength.Statement .res1B := ⟨rfl, .inr (.inl rfl)⟩
theorem EncodedLength.res1C : EncodedLength.Statement .res1C := ⟨rfl, .inr (.inl rfl)⟩
theorem EncodedLength.res1D : EncodedLength.Statement .res1D := ⟨rfl, .inr (.inl rfl)⟩
theorem EncodedLength.res1E : EncodedLength.Statement .res1E := ⟨rfl, .inr (.inl rfl)⟩
theorem EncodedLength.res1H : EncodedLength.Statement .res1H := ⟨rfl, .inr (.inl rfl)⟩
theorem EncodedLength.res1L : EncodedLength.Statement .res1L := ⟨rfl, .inr (.inl rfl)⟩
theorem EncodedLength.res1AtHL : EncodedLength.Statement .res1AtHL := ⟨rfl, .inr (.inl rfl)⟩
theorem EncodedLength.res1A : EncodedLength.Statement .res1A := ⟨rfl, .inr (.inl rfl)⟩
theorem EncodedLength.res2B : EncodedLength.Statement .res2B := ⟨rfl, .inr (.inl rfl)⟩
theorem EncodedLength.res2C : EncodedLength.Statement .res2C := ⟨rfl, .inr (.inl rfl)⟩
theorem EncodedLength.res2D : EncodedLength.Statement .res2D := ⟨rfl, .inr (.inl rfl)⟩
theorem EncodedLength.res2E : EncodedLength.Statement .res2E := ⟨rfl, .inr (.inl rfl)⟩
theorem EncodedLength.res2H : EncodedLength.Statement .res2H := ⟨rfl, .inr (.inl rfl)⟩
theorem EncodedLength.res2L : EncodedLength.Statement .res2L := ⟨rfl, .inr (.inl rfl)⟩
theorem EncodedLength.res2AtHL : EncodedLength.Statement .res2AtHL := ⟨rfl, .inr (.inl rfl)⟩
theorem EncodedLength.res2A : EncodedLength.Statement .res2A := ⟨rfl, .inr (.inl rfl)⟩
theorem EncodedLength.res3B : EncodedLength.Statement .res3B := ⟨rfl, .inr (.inl rfl)⟩
theorem EncodedLength.res3C : EncodedLength.Statement .res3C := ⟨rfl, .inr (.inl rfl)⟩
theorem EncodedLength.res3D : EncodedLength.Statement .res3D := ⟨rfl, .inr (.inl rfl)⟩
theorem EncodedLength.res3E : EncodedLength.Statement .res3E := ⟨rfl, .inr (.inl rfl)⟩
theorem EncodedLength.res3H : EncodedLength.Statement .res3H := ⟨rfl, .inr (.inl rfl)⟩
theorem EncodedLength.res3L : EncodedLength.Statement .res3L := ⟨rfl, .inr (.inl rfl)⟩
theorem EncodedLength.res3AtHL : EncodedLength.Statement .res3AtHL := ⟨rfl, .inr (.inl rfl)⟩
theorem EncodedLength.res3A : EncodedLength.Statement .res3A := ⟨rfl, .inr (.inl rfl)⟩
theorem EncodedLength.res4B : EncodedLength.Statement .res4B := ⟨rfl, .inr (.inl rfl)⟩
theorem EncodedLength.res4C : EncodedLength.Statement .res4C := ⟨rfl, .inr (.inl rfl)⟩
theorem EncodedLength.res4D : EncodedLength.Statement .res4D := ⟨rfl, .inr (.inl rfl)⟩
theorem EncodedLength.res4E : EncodedLength.Statement .res4E := ⟨rfl, .inr (.inl rfl)⟩
theorem EncodedLength.res4H : EncodedLength.Statement .res4H := ⟨rfl, .inr (.inl rfl)⟩
theorem EncodedLength.res4L : EncodedLength.Statement .res4L := ⟨rfl, .inr (.inl rfl)⟩
theorem EncodedLength.res4AtHL : EncodedLength.Statement .res4AtHL := ⟨rfl, .inr (.inl rfl)⟩
theorem EncodedLength.res4A : EncodedLength.Statement .res4A := ⟨rfl, .inr (.inl rfl)⟩
theorem EncodedLength.res5B : EncodedLength.Statement .res5B := ⟨rfl, .inr (.inl rfl)⟩
theorem EncodedLength.res5C : EncodedLength.Statement .res5C := ⟨rfl, .inr (.inl rfl)⟩
theorem EncodedLength.res5D : EncodedLength.Statement .res5D := ⟨rfl, .inr (.inl rfl)⟩
theorem EncodedLength.res5E : EncodedLength.Statement .res5E := ⟨rfl, .inr (.inl rfl)⟩
theorem EncodedLength.res5H : EncodedLength.Statement .res5H := ⟨rfl, .inr (.inl rfl)⟩
theorem EncodedLength.res5L : EncodedLength.Statement .res5L := ⟨rfl, .inr (.inl rfl)⟩
theorem EncodedLength.res5AtHL : EncodedLength.Statement .res5AtHL := ⟨rfl, .inr (.inl rfl)⟩
theorem EncodedLength.res5A : EncodedLength.Statement .res5A := ⟨rfl, .inr (.inl rfl)⟩
theorem EncodedLength.res6B : EncodedLength.Statement .res6B := ⟨rfl, .inr (.inl rfl)⟩
theorem EncodedLength.res6C : EncodedLength.Statement .res6C := ⟨rfl, .inr (.inl rfl)⟩
theorem EncodedLength.res6D : EncodedLength.Statement .res6D := ⟨rfl, .inr (.inl rfl)⟩
theorem EncodedLength.res6E : EncodedLength.Statement .res6E := ⟨rfl, .inr (.inl rfl)⟩
theorem EncodedLength.res6H : EncodedLength.Statement .res6H := ⟨rfl, .inr (.inl rfl)⟩
theorem EncodedLength.res6L : EncodedLength.Statement .res6L := ⟨rfl, .inr (.inl rfl)⟩
theorem EncodedLength.res6AtHL : EncodedLength.Statement .res6AtHL := ⟨rfl, .inr (.inl rfl)⟩
theorem EncodedLength.res6A : EncodedLength.Statement .res6A := ⟨rfl, .inr (.inl rfl)⟩
theorem EncodedLength.res7B : EncodedLength.Statement .res7B := ⟨rfl, .inr (.inl rfl)⟩
theorem EncodedLength.res7C : EncodedLength.Statement .res7C := ⟨rfl, .inr (.inl rfl)⟩
theorem EncodedLength.res7D : EncodedLength.Statement .res7D := ⟨rfl, .inr (.inl rfl)⟩
theorem EncodedLength.res7E : EncodedLength.Statement .res7E := ⟨rfl, .inr (.inl rfl)⟩
theorem EncodedLength.res7H : EncodedLength.Statement .res7H := ⟨rfl, .inr (.inl rfl)⟩
theorem EncodedLength.res7L : EncodedLength.Statement .res7L := ⟨rfl, .inr (.inl rfl)⟩
theorem EncodedLength.res7AtHL : EncodedLength.Statement .res7AtHL := ⟨rfl, .inr (.inl rfl)⟩
theorem EncodedLength.res7A : EncodedLength.Statement .res7A := ⟨rfl, .inr (.inl rfl)⟩
theorem EncodedLength.set0B : EncodedLength.Statement .set0B := ⟨rfl, .inr (.inl rfl)⟩
theorem EncodedLength.set0C : EncodedLength.Statement .set0C := ⟨rfl, .inr (.inl rfl)⟩
theorem EncodedLength.set0D : EncodedLength.Statement .set0D := ⟨rfl, .inr (.inl rfl)⟩
theorem EncodedLength.set0E : EncodedLength.Statement .set0E := ⟨rfl, .inr (.inl rfl)⟩
theorem EncodedLength.set0H : EncodedLength.Statement .set0H := ⟨rfl, .inr (.inl rfl)⟩
theorem EncodedLength.set0L : EncodedLength.Statement .set0L := ⟨rfl, .inr (.inl rfl)⟩
theorem EncodedLength.set0AtHL : EncodedLength.Statement .set0AtHL := ⟨rfl, .inr (.inl rfl)⟩
theorem EncodedLength.set0A : EncodedLength.Statement .set0A := ⟨rfl, .inr (.inl rfl)⟩
theorem EncodedLength.set1B : EncodedLength.Statement .set1B := ⟨rfl, .inr (.inl rfl)⟩
theorem EncodedLength.set1C : EncodedLength.Statement .set1C := ⟨rfl, .inr (.inl rfl)⟩
theorem EncodedLength.set1D : EncodedLength.Statement .set1D := ⟨rfl, .inr (.inl rfl)⟩
theorem EncodedLength.set1E : EncodedLength.Statement .set1E := ⟨rfl, .inr (.inl rfl)⟩
theorem EncodedLength.set1H : EncodedLength.Statement .set1H := ⟨rfl, .inr (.inl rfl)⟩
theorem EncodedLength.set1L : EncodedLength.Statement .set1L := ⟨rfl, .inr (.inl rfl)⟩
theorem EncodedLength.set1AtHL : EncodedLength.Statement .set1AtHL := ⟨rfl, .inr (.inl rfl)⟩
theorem EncodedLength.set1A : EncodedLength.Statement .set1A := ⟨rfl, .inr (.inl rfl)⟩
theorem EncodedLength.set2B : EncodedLength.Statement .set2B := ⟨rfl, .inr (.inl rfl)⟩
theorem EncodedLength.set2C : EncodedLength.Statement .set2C := ⟨rfl, .inr (.inl rfl)⟩
theorem EncodedLength.set2D : EncodedLength.Statement .set2D := ⟨rfl, .inr (.inl rfl)⟩
theorem EncodedLength.set2E : EncodedLength.Statement .set2E := ⟨rfl, .inr (.inl rfl)⟩
theorem EncodedLength.set2H : EncodedLength.Statement .set2H := ⟨rfl, .inr (.inl rfl)⟩
theorem EncodedLength.set2L : EncodedLength.Statement .set2L := ⟨rfl, .inr (.inl rfl)⟩
theorem EncodedLength.set2AtHL : EncodedLength.Statement .set2AtHL := ⟨rfl, .inr (.inl rfl)⟩
theorem EncodedLength.set2A : EncodedLength.Statement .set2A := ⟨rfl, .inr (.inl rfl)⟩
theorem EncodedLength.set3B : EncodedLength.Statement .set3B := ⟨rfl, .inr (.inl rfl)⟩
theorem EncodedLength.set3C : EncodedLength.Statement .set3C := ⟨rfl, .inr (.inl rfl)⟩
theorem EncodedLength.set3D : EncodedLength.Statement .set3D := ⟨rfl, .inr (.inl rfl)⟩
theorem EncodedLength.set3E : EncodedLength.Statement .set3E := ⟨rfl, .inr (.inl rfl)⟩
theorem EncodedLength.set3H : EncodedLength.Statement .set3H := ⟨rfl, .inr (.inl rfl)⟩
theorem EncodedLength.set3L : EncodedLength.Statement .set3L := ⟨rfl, .inr (.inl rfl)⟩
theorem EncodedLength.set3AtHL : EncodedLength.Statement .set3AtHL := ⟨rfl, .inr (.inl rfl)⟩
theorem EncodedLength.set3A : EncodedLength.Statement .set3A := ⟨rfl, .inr (.inl rfl)⟩
theorem EncodedLength.set4B : EncodedLength.Statement .set4B := ⟨rfl, .inr (.inl rfl)⟩
theorem EncodedLength.set4C : EncodedLength.Statement .set4C := ⟨rfl, .inr (.inl rfl)⟩
theorem EncodedLength.set4D : EncodedLength.Statement .set4D := ⟨rfl, .inr (.inl rfl)⟩
theorem EncodedLength.set4E : EncodedLength.Statement .set4E := ⟨rfl, .inr (.inl rfl)⟩
theorem EncodedLength.set4H : EncodedLength.Statement .set4H := ⟨rfl, .inr (.inl rfl)⟩
theorem EncodedLength.set4L : EncodedLength.Statement .set4L := ⟨rfl, .inr (.inl rfl)⟩
theorem EncodedLength.set4AtHL : EncodedLength.Statement .set4AtHL := ⟨rfl, .inr (.inl rfl)⟩
theorem EncodedLength.set4A : EncodedLength.Statement .set4A := ⟨rfl, .inr (.inl rfl)⟩
theorem EncodedLength.set5B : EncodedLength.Statement .set5B := ⟨rfl, .inr (.inl rfl)⟩
theorem EncodedLength.set5C : EncodedLength.Statement .set5C := ⟨rfl, .inr (.inl rfl)⟩
theorem EncodedLength.set5D : EncodedLength.Statement .set5D := ⟨rfl, .inr (.inl rfl)⟩
theorem EncodedLength.set5E : EncodedLength.Statement .set5E := ⟨rfl, .inr (.inl rfl)⟩
theorem EncodedLength.set5H : EncodedLength.Statement .set5H := ⟨rfl, .inr (.inl rfl)⟩
theorem EncodedLength.set5L : EncodedLength.Statement .set5L := ⟨rfl, .inr (.inl rfl)⟩
theorem EncodedLength.set5AtHL : EncodedLength.Statement .set5AtHL := ⟨rfl, .inr (.inl rfl)⟩
theorem EncodedLength.set5A : EncodedLength.Statement .set5A := ⟨rfl, .inr (.inl rfl)⟩
theorem EncodedLength.set6B : EncodedLength.Statement .set6B := ⟨rfl, .inr (.inl rfl)⟩
theorem EncodedLength.set6C : EncodedLength.Statement .set6C := ⟨rfl, .inr (.inl rfl)⟩
theorem EncodedLength.set6D : EncodedLength.Statement .set6D := ⟨rfl, .inr (.inl rfl)⟩
theorem EncodedLength.set6E : EncodedLength.Statement .set6E := ⟨rfl, .inr (.inl rfl)⟩
theorem EncodedLength.set6H : EncodedLength.Statement .set6H := ⟨rfl, .inr (.inl rfl)⟩
theorem EncodedLength.set6L : EncodedLength.Statement .set6L := ⟨rfl, .inr (.inl rfl)⟩
theorem EncodedLength.set6AtHL : EncodedLength.Statement .set6AtHL := ⟨rfl, .inr (.inl rfl)⟩
theorem EncodedLength.set6A : EncodedLength.Statement .set6A := ⟨rfl, .inr (.inl rfl)⟩
theorem EncodedLength.set7B : EncodedLength.Statement .set7B := ⟨rfl, .inr (.inl rfl)⟩
theorem EncodedLength.set7C : EncodedLength.Statement .set7C := ⟨rfl, .inr (.inl rfl)⟩
theorem EncodedLength.set7D : EncodedLength.Statement .set7D := ⟨rfl, .inr (.inl rfl)⟩
theorem EncodedLength.set7E : EncodedLength.Statement .set7E := ⟨rfl, .inr (.inl rfl)⟩
theorem EncodedLength.set7H : EncodedLength.Statement .set7H := ⟨rfl, .inr (.inl rfl)⟩
theorem EncodedLength.set7L : EncodedLength.Statement .set7L := ⟨rfl, .inr (.inl rfl)⟩
theorem EncodedLength.set7AtHL : EncodedLength.Statement .set7AtHL := ⟨rfl, .inr (.inl rfl)⟩
theorem EncodedLength.set7A : EncodedLength.Statement .set7A := ⟨rfl, .inr (.inl rfl)⟩

end Sys2Proof.Laws
end

