-- ==== Sys2Proof/Tests/Slice0.lean ====
section
/-! SUPPORT. Tests. Expected values are those of spec/95_test_vectors.md (its vector's name is given) or are
worked out by hand from the cited rule; every test is about one step or one operation on a small state. After
them come the witnesses: states and operands that meet the hypotheses of each statement in
Certificates/Slice0/Obligations.lean, clause by clause at the ends of its ranges. -/

namespace Sys2Proof.Tests

open Sys2Proof Sys2Proof.Machine

/-! ### Small states -/

/-- The reset state with PC at 0x0150 and the LCD on. -/
def lit : State := State.reset.setPc 0x0150

/-- The same with the LCD off (LCDC = 0x11), as the vectors of 95 part 2 start. -/
def base : State := lit.setPpu { lit.ppu with lcdc := 0x11, mode := .hblank }

/-- F from a byte, as the vectors give it. -/
def withF (s : State) (f : Byte) : State := s.setFlags (Flags.ofByte f)

/-- A and F set. -/
def withAF (a f : Byte) : State := withF (base.setReg .a a) f

/-- What an observer sees in the next state, if there is one. -/
def after {α : Type} (r : Result) (see : State → α) : Option α :=
  match r with
  | .next t => some (see t)
  | _ => none

/-- A, F and the cost. -/
def accView (t : State) : Byte × Byte × Nat := (t.reg .a, t.cpu.f.toByte, t.cost)

/-- PC, SP and the cost. -/
def flowView (t : State) : Word × Word × Nat := (t.cpu.pc, t.cpu.sp, t.cost)

/-- The byte of RAM at an address past the bus. -/
def poke (s : State) (a : Word) (v : Byte) : State := s.place a v

/-- An MBC1 cartridge of `banks` banks with the given RAM size, its ROM holding the bank number at the start of
each of banks 1 to 33. -/
def mbc1 (banks : Nat) (ramSize : RamSize) : State :=
  State.power .mbc1 banks ramSize
    ((List.range 33).map fun k => ((k + 1) * 0x4000, BitVec.ofNat 8 (k + 1))) {} {}

/-! ### Well-formedness -/

theorem test_illegal_is_not_wellformed : (Instr.illegalDD).wellFormed = false := by decide
theorem test_defined_is_wellformed : (Instr.set3L).wellFormed = true := by decide
theorem test_nombc_size_refused : cartAdmitted .noMbc 65536 = false := by decide
theorem test_mbc1_single_bank_refused : cartAdmitted .mbc1 0x4000 = false := by decide
theorem test_mbc1_three_banks_refused : cartAdmitted .mbc1 0xC000 = false := by decide
theorem test_mbc1_4mib_refused : cartAdmitted .mbc1 0x400000 = false := by decide
theorem test_sizes_admitted : cartAdmitted .noMbc 32768 = true ∧ cartAdmitted .mbc1 0x200000 = true := by decide

/-! ### Decoding: words of 30 R122, bit by bit (x y z, or x p q z), of each family -/

theorem test_decode_ld_b_c : decode [0b01_000_001] = .ok (.ldBC, []) := by rfl
theorem test_decode_ld_a_hl : decode [0b01_111_110] = .ok (.ldAAtHL, []) := by rfl
theorem test_decode_ld_hl_e : decode [0b01_110_011] = .ok (.ldAtHLE, []) := by rfl
theorem test_decode_ld_l_n : decode [0b00_101_110, 0x9C] = .ok (.ldLN 0x9C, []) := by rfl
theorem test_decode_ld_hl_n : decode [0b00_110_110, 0x99] = .ok (.ldAtHLN 0x99, []) := by rfl
theorem test_decode_ld_bc_a : decode [0b00_00_0_010] = .ok (.ldAtBCA, []) := by rfl
theorem test_decode_ld_a_de : decode [0b00_01_1_010] = .ok (.ldAAtDE, []) := by rfl
theorem test_decode_ld_hli_a : decode [0b00_10_0_010] = .ok (.ldAtHLIncA, []) := by rfl
theorem test_decode_ld_a_hld : decode [0b00_11_1_010] = .ok (.ldAAtHLDec, []) := by rfl
theorem test_decode_ldh_n_a : decode [0b11_100_000, 0x46] = .ok (.ldhAtNA 0x46, []) := by rfl
theorem test_decode_ldh_a_c : decode [0b11_110_010] = .ok (.ldhAAtC, []) := by rfl
theorem test_decode_ld_nn_a : decode [0b11_101_010, 0x46, 0xFF] = .ok (.ldAtNnA 0xFF46, []) := by rfl
theorem test_decode_ld_de_nn : decode [0b00_01_0_001, 0x34, 0x12] = .ok (.ldDENn 0x1234, []) := by rfl
theorem test_decode_ld_nn_sp : decode [0b00_001_000, 0x00, 0xC1] = .ok (.ldAtNnSP 0xC100, []) := by rfl
theorem test_decode_ld_sp_hl : decode [0b11_111_001] = .ok (.ldSPHL, []) := by rfl
theorem test_decode_push_de : decode [0b11_01_0_101] = .ok (.pushDE, []) := by rfl
theorem test_decode_pop_af : decode [0b11_11_0_001] = .ok (.popAF, []) := by rfl
theorem test_decode_sbc_a_l : decode [0b10_011_101] = .ok (.sbcAL, []) := by rfl
theorem test_decode_xor_hl : decode [0b10_101_110] = .ok (.xorAtHL, []) := by rfl
theorem test_decode_cp_n : decode [0b11_111_110, 0x3C] = .ok (.cpN 0x3C, []) := by rfl
theorem test_decode_inc_d : decode [0b00_010_100] = .ok (.incD, []) := by rfl
theorem test_decode_dec_hl_byte : decode [0b00_110_101] = .ok (.decAtHL, []) := by rfl
theorem test_decode_daa : decode [0b00_100_111] = .ok (.daa, []) := by rfl
theorem test_decode_ccf : decode [0b00_111_111] = .ok (.ccf, []) := by rfl
theorem test_decode_add_hl_sp : decode [0b00_11_1_001] = .ok (.addHLSP, []) := by rfl
theorem test_decode_dec_de : decode [0b00_01_1_011] = .ok (.decDE, []) := by rfl
theorem test_decode_add_sp_e : decode [0b11_101_000, 0xFE] = .ok (.addSPE 0xFE, []) := by rfl
theorem test_decode_rra : decode [0b00_011_111] = .ok (.rra, []) := by rfl
theorem test_decode_swap_a : decode [0xCB, 0b00_110_111] = .ok (.swapA, []) := by rfl
theorem test_decode_bit_7_h : decode [0xCB, 0b01_111_100] = .ok (.bit7H, []) := by rfl
theorem test_decode_res_3_a : decode [0xCB, 0b10_011_111] = .ok (.res3A, []) := by rfl
theorem test_decode_set_0_hl : decode [0xCB, 0b11_000_110] = .ok (.set0AtHL, []) := by rfl
theorem test_decode_set_3_l : decode [0xCB, 0xDD] = .ok (.set3L, []) := by rfl  -- V-SYS-8
theorem test_decode_jp_nc : decode [0b11_010_010, 0x34, 0x12] = .ok (.jpNC 0x1234, []) := by rfl
theorem test_decode_jr_z : decode [0b00_101_000, 0xFB] = .ok (.jrZ 0xFB, []) := by rfl
theorem test_decode_call_c : decode [0b11_011_100, 0x00, 0x20] = .ok (.callC 0x2000, []) := by rfl
theorem test_decode_ret_nz : decode [0b11_000_000] = .ok (.retNZ, []) := by rfl
theorem test_decode_rst_38 : decode [0b11_111_111] = .ok (.rst38, []) := by rfl
theorem test_decode_jp_hl : decode [0b11_101_001] = .ok (.jpHL, []) := by rfl
theorem test_decode_halt : decode [0b01_110_110] = .ok (.halt, []) := by rfl
theorem test_decode_stop_any_byte : decode [0b00_010_000, 0x5A] = .ok (.stop, []) := by rfl
theorem test_decode_ei : decode [0b11_111_011] = .ok (.ei, []) := by rfl
theorem test_decode_illegal_fd : decode [0b11_111_101] = .ok (.illegalFD, []) := by rfl
theorem test_decode_truncated : decode [0xC3, 0x50] = .error .truncated := by rfl
theorem test_table_word_ld : decodeTableWord 8 0x41 = some .ldBC := by rfl
theorem test_table_word_jp : decodeTableWord 24 0x0150C3 = some (.jp 0x0150) := by rfl
theorem test_table_word_cb : decodeTableWord 16 0xCB7C = some .bit7H := by rfl

/-! ### 8-bit loads -/

theorem test_ld_b_c :  -- V-LD8-1
    after (exec .ldBC (base.setReg .c 0x5A)) (fun t => (t.reg .b, t.cpu.f.toByte, t.cost, t.cpu.pc)) =
      some (0x5A, 0xB0, 4, 0x0151) := by decide
theorem test_ld_a_hli :  -- V-LD8-2
    after (exec .ldAAtHLInc (poke (base.setPair .hl 0xC0FF) 0xC0FF 0x5C)) (fun t => (t.reg .a, t.hl, t.cost)) =
      some (0x5C, 0xC100, 8) := by decide
theorem test_ld_hld_a :  -- V-LD8-3
    after (exec .ldAtHLDecA ((base.setReg .a 0x77).setPair .hl 0xC000)) (fun t => (t.read8 0xC000, t.hl, t.cost)) =
      some (0x77, 0xBFFF, 8) := by decide
theorem test_ld_hli_a :  -- V-LD8-4
    after (exec .ldAtHLIncA ((base.setReg .a 0x1F).setPair .hl 0xFFFF)) (fun t => (t.irq.enable, t.hl, t.cost)) =
      some (0x1F, 0x0000, 8) := by decide
theorem test_ldh_a_c :  -- V-LD8-5
    after (exec .ldhAAtC (base.setReg .c 0x0F)) (fun t => (t.reg .a, t.cost)) = some (0xE1, 8) := by decide
theorem test_ld_dma_a :  -- V-LD8-6
    after (exec (.ldAtNnA 0xFF46) (poke (poke (base.setReg .a 0xC0) 0xC000 0x11) 0xC09F 0x22))
      (fun t => (t.mem.dma, Store.get t.mem.oam 0, Store.get t.mem.oam 0x9F, t.cpu.pc, t.cost)) =
      some (0xC0, 0x11, 0x22, 0x0153, 656) := by decide +kernel
theorem test_ld_hl_n_rom :  -- V-LD8-7
    after (exec (.ldAtHLN 0x99) (base.setPair .hl 0x2000)) (fun t => (t.cart, t.cost)) =
      some (base.cart, 12) := by decide
theorem test_ld_a_nn_no_ram :  -- V-LD8-8
    after (exec (.ldAAtNn 0xA000) base) (fun t => (t.reg .a, t.cost)) = some (0xFF, 16) := by decide
theorem test_ldh_a_ly :  -- V-LD8-9
    after (exec (.ldhAAtN 0x44) lit) (fun t => (t.reg .a, t.cost)) = some (0x00, 12) := by decide

/-! ### 16-bit loads and the stack -/

theorem test_ld_nn_sp :  -- V-LD16-1
    after (exec (.ldAtNnSP 0xC100) (base.setSp 0xBEEF)) (fun t => (t.read8 0xC100, t.read8 0xC101, t.cost)) =
      some (0xEF, 0xBE, 20) := by decide
theorem test_push_bc :  -- V-LD16-2
    after (exec .pushBC ((base.setPair .bc 0x121F).setSp 0)) (fun t => (t.cpu.sp, t.irq.enable, t.read8 0xFFFE, t.cost)) =
      some (0xFFFE, 0x12, 0x1F, 16) := by decide
theorem test_pop_af :  -- V-LD16-3
    after (exec .popAF (poke (poke (base.setSp 0xC000) 0xC000 0xFF) 0xC001 0x12))
      (fun t => (t.reg .a, t.cpu.f.toByte, t.cpu.sp, t.cost)) = some (0x12, 0xF0, 0xC002, 12) := by decide
theorem test_ld_hl_sp_minus_1 :  -- V-LD16-4
    after (exec (.ldHLSPE 0xFF) (base.setSp 0)) (fun t => (t.hl, t.cpu.f.toByte, t.cost)) =
      some (0xFFFF, 0x00, 12) := by decide
theorem test_ld_hl_sp_plus_1 :  -- V-LD16-5
    after (exec (.ldHLSPE 0x01) (base.setSp 0x00FF)) (fun t => (t.hl, t.cpu.f.toByte)) =
      some (0x0100, 0x30) := by decide
theorem test_ld_sp_hl :  -- V-LD16-7
    after (exec .ldSPHL (base.setPair .hl 0xC0DE)) (fun t => (t.cpu.sp, t.cpu.f.toByte, t.cost)) =
      some (0xC0DE, 0xB0, 8) := by decide
theorem test_ld_sp_nn :  -- V-LD16-8
    after (exec (.ldSPNn 0xFFFE) (base.setSp 0)) (fun t => (t.cpu.sp, t.cost)) = some (0xFFFE, 12) := by decide

/-! ### 8-bit arithmetic -/

theorem test_add_wraps :  -- V-ALU-1
    after (exec .addAB ((withAF 0x3A 0x00).setReg .b 0xC6)) accView = some (0x00, 0xB0, 4) := by decide
theorem test_add_half_carry :  -- V-ALU-2
    after (exec .addAB ((withAF 0x08 0x00).setReg .b 0x08)) accView = some (0x10, 0x20, 4) := by decide
theorem test_adc_carry_in :  -- V-ALU-3
    after (exec (.adcAN 0x00) (withAF 0xFF 0x10)) accView = some (0x00, 0xB0, 8) := by decide
theorem test_sub_borrow :  -- V-ALU-4
    after (exec (.subN 0x01) (withAF 0x00 0x00)) accView = some (0xFF, 0x70, 8) := by decide
theorem test_sub_half_borrow :  -- V-ALU-5
    after (exec (.subN 0x01) (withAF 0x10 0x00)) accView = some (0x0F, 0x60, 8) := by decide
theorem test_sbc_zero_with_borrow :  -- V-ALU-6
    after (exec (.sbcAN 0xFF) (withAF 0x00 0x10)) accView = some (0x00, 0xF0, 8) := by decide
theorem test_sbc_a_a :  -- V-ALU-27
    after (exec .sbcAA (withAF 0x5A 0x10)) accView = some (0xFF, 0x70, 4) := by decide
theorem test_cp_equal :  -- V-ALU-7
    after (exec (.cpN 0x3C) (withAF 0x3C 0x00)) accView = some (0x3C, 0xC0, 8) := by decide
theorem test_cp_less :  -- V-ALU-8
    after (exec (.cpN 0x40) (withAF 0x3C 0x00)) accView = some (0x3C, 0x50, 8) := by decide
theorem test_and_n :  -- V-ALU-9
    after (exec (.andN 0x0F) (withAF 0xF0 0x00)) accView = some (0x00, 0xA0, 8) := by decide
theorem test_or_n :  -- V-ALU-10
    after (exec (.orN 0x00) (withAF 0x00 0x70)) accView = some (0x00, 0x80, 8) := by decide
theorem test_xor_a :  -- V-ALU-11
    after (exec .xorA (withAF 0x5A 0x30)) accView = some (0x00, 0x80, 4) := by decide
theorem test_inc_wraps :  -- V-ALU-12
    after (exec .incA (withAF 0xFF 0x10)) accView = some (0x00, 0xB0, 4) := by decide
theorem test_inc_half_carry :  -- V-ALU-13
    after (exec .incA (withAF 0x0F 0x00)) accView = some (0x10, 0x20, 4) := by decide
theorem test_dec_to_zero :  -- V-ALU-14
    after (exec .decA (withAF 0x01 0x10)) accView = some (0x00, 0xD0, 4) := by decide
theorem test_dec_wraps :  -- V-ALU-15
    after (exec .decA (withAF 0x00 0x00)) accView = some (0xFF, 0x60, 4) := by decide
theorem test_dec_hl_byte :  -- V-ALU-16
    after (exec .decAtHL (poke (withF (base.setPair .hl 0xC000) 0x00) 0xC000 0x10))
      (fun t => (t.read8 0xC000, t.cpu.f.toByte, t.cost)) = some (0x0F, 0x60, 12) := by decide
theorem test_daa_after_add :  -- V-ALU-17
    after (exec .daa (withAF 0x7D 0x00)) accView = some (0x83, 0x00, 4) := by decide
theorem test_daa_after_sub_borrow :  -- V-ALU-22
    after (exec .daa (withAF 0xFF 0x70)) accView = some (0x99, 0x50, 4) := by decide
theorem test_daa_both_adjustments :  -- V-ALU-18
    daaResult 0x9A (Flags.ofByte 0x00) = (0x00, Flags.ofByte 0x90) := by decide
theorem test_daa_half_carry_alone :  -- V-ALU-21
    daaResult 0x11 (Flags.ofByte 0x20) = (0x17, Flags.ofByte 0x00) := by decide
theorem test_daa_sub_half_borrow :  -- V-ALU-19
    daaResult 0x4B (Flags.ofByte 0x60) = (0x45, Flags.ofByte 0x40) := by decide
theorem test_daa_carry_alone :  -- V-ALU-20
    daaResult 0x20 (Flags.ofByte 0x10) = (0x80, Flags.ofByte 0x10) := by decide
theorem test_cpl :  -- V-ALU-23
    after (exec .cpl (withAF 0x35 0x80)) accView = some (0xCA, 0xE0, 4) := by decide
theorem test_scf :  -- V-ALU-24
    after (exec .scf (withAF 0x01 0xE0)) accView = some (0x01, 0x90, 4) := by decide
theorem test_ccf :  -- V-ALU-25
    after (exec .ccf (withAF 0x01 0xF0)) accView = some (0x01, 0x80, 4) := by decide
theorem test_add_a_a :  -- V-ALU-26
    after (exec .addAA (withAF 0x88 0x00)) accView = some (0x10, 0x30, 4) := by decide

/-! ### 16-bit arithmetic -/

theorem test_add_hl_bc :  -- V-A16-1
    after (exec .addHLBC (withF ((base.setPair .hl 0x8A23).setPair .bc 0x0605) 0x80))
      (fun t => (t.hl, t.cpu.f.toByte, t.cost)) = some (0x9028, 0xA0, 8) := by decide
theorem test_add_hl_hl :  -- V-A16-2
    after (exec .addHLHL (withF (base.setPair .hl 0x8A23) 0x00)) (fun t => (t.hl, t.cpu.f.toByte)) =
      some (0x1446, 0x30) := by decide
theorem test_inc_bc :  -- V-A16-3
    after (exec .incBC (withF (base.setPair .bc 0xFFFF) 0x00)) (fun t => (t.pairOf .bc, t.cpu.f.toByte, t.cost)) =
      some (0x0000, 0x00, 8) := by decide
theorem test_dec_de :  -- V-A16-4
    after (exec .decDE (withF (base.setPair .de 0x0000) 0xF0)) (fun t => (t.pairOf .de, t.cpu.f.toByte, t.cost)) =
      some (0xFFFF, 0xF0, 8) := by decide
theorem test_add_sp_minus_2 :  -- V-A16-5
    after (exec (.addSPE 0xFE) (base.setSp 0xFFF8)) (fun t => (t.cpu.sp, t.cpu.f.toByte, t.cost)) =
      some (0xFFF6, 0x30, 16) := by decide
theorem test_add_sp_minus_128 :  -- V-A16-6
    after (exec (.addSPE 0x80) (base.setSp 0x0000)) (fun t => (t.cpu.sp, t.cpu.f.toByte)) =
      some (0xFF80, 0x00) := by decide

/-! ### Rotates, shifts and bits -/

theorem test_rlca :  -- V-ROT-1
    after (exec .rlca (withAF 0x85 0x00)) accView = some (0x0B, 0x10, 4) := by decide
theorem test_rlca_zero :  -- V-ROT-2
    after (exec .rlca (withAF 0x00 0x00)) accView = some (0x00, 0x00, 4) := by decide
theorem test_rla :  -- V-ROT-3
    after (exec .rla (withAF 0x95 0x10)) accView = some (0x2B, 0x10, 4) := by decide
theorem test_rrca :  -- V-ROT-4
    after (exec .rrca (withAF 0x3B 0x00)) accView = some (0x9D, 0x10, 4) := by decide
theorem test_rra :  -- V-ROT-5
    after (exec .rra (withAF 0x81 0x00)) accView = some (0x40, 0x10, 4) := by decide
theorem test_rlc_b_zero :  -- V-ROT-6
    after (exec .rlcB (withF (base.setReg .b 0x00) 0x00)) (fun t => (t.reg .b, t.cpu.f.toByte, t.cost)) =
      some (0x00, 0x80, 8) := by decide
theorem test_rl_a :  -- V-ROT-7
    after (exec .rlA (withAF 0x80 0x00)) accView = some (0x00, 0x90, 8) := by decide
theorem test_rr_hl_byte :  -- V-ROT-8
    after (exec .rrAtHL (poke (withF (base.setPair .hl 0xC000) 0x00) 0xC000 0x01))
      (fun t => (t.read8 0xC000, t.cpu.f.toByte, t.cost)) = some (0x00, 0x90, 16) := by decide
theorem test_sla_d :  -- V-ROT-9
    after (exec .slaD (withF (base.setReg .d 0xFF) 0x00)) (fun t => (t.reg .d, t.cpu.f.toByte, t.cost)) =
      some (0xFE, 0x10, 8) := by decide
theorem test_sra_a :  -- V-ROT-10
    after (exec .sraA (withAF 0x8A 0x00)) accView = some (0xC5, 0x00, 8) := by decide
theorem test_srl_a :  -- V-ROT-11
    after (exec .srlA (withAF 0x01 0x00)) accView = some (0x00, 0x90, 8) := by decide
theorem test_swap_a :  -- V-ROT-12
    after (exec .swapA (withAF 0xF0 0x70)) accView = some (0x0F, 0x00, 8) := by decide
theorem test_bit_7_h :  -- V-BIT-1
    after (exec .bit7H (withF (base.setReg .h 0x80) 0x10)) (fun t => (t.cpu.f.toByte, t.cost)) =
      some (0x30, 8) := by decide
theorem test_bit_0_hl :  -- V-BIT-3
    after (exec .bit0AtHL (poke (withF (base.setPair .hl 0xC000) 0x00) 0xC000 0xFE))
      (fun t => (t.cpu.f.toByte, t.read8 0xC000, t.cost)) = some (0xA0, 0xFE, 12) := by decide
theorem test_res_3_a :  -- V-BIT-4
    after (exec .res3A (withAF 0xFF 0x00)) accView = some (0xF7, 0x00, 8) := by decide
theorem test_set_7_hl :  -- V-BIT-5
    after (exec .set7AtHL (base.setPair .hl 0xC000)) (fun t => (t.read8 0xC000, t.cpu.f.toByte, t.cost)) =
      some (0x80, 0xB0, 16) := by decide

/-! ### Control transfer -/

theorem test_jp :  -- V-CTL-1
    after (exec (.jp 0x1234) base) flowView = some (0x1234, 0xFFFE, 16) := by decide
theorem test_jp_nz_taken :  -- V-CTL-2
    after (exec (.jpNZ 0x1234) (withF base 0x00)) flowView = some (0x1234, 0xFFFE, 16) := by decide
theorem test_jp_nz_not_taken :  -- V-CTL-3
    after (exec (.jpNZ 0x1234) (withF base 0x80)) flowView = some (0x0153, 0xFFFE, 12) := by decide
theorem test_jp_hl :  -- V-CTL-4
    after (exec .jpHL (base.setPair .hl 0xC000)) flowView = some (0xC000, 0xFFFE, 4) := by decide
theorem test_jr_back :  -- V-CTL-7
    after (exec (.jr 0x80) base) flowView = some (0x00D2, 0xFFFE, 12) := by decide
theorem test_jr_forward :  -- V-CTL-6
    after (exec (.jr 0x7F) base) flowView = some (0x01D1, 0xFFFE, 12) := by decide
theorem test_jr_c_taken :  -- V-CTL-8
    after (exec (.jrC 0x05) (withF base 0x10)) flowView = some (0x0157, 0xFFFE, 12) := by decide
theorem test_jr_c_not_taken :  -- V-CTL-9
    after (exec (.jrC 0x05) (withF base 0x00)) flowView = some (0x0152, 0xFFFE, 8) := by decide
theorem test_call :  -- V-CTL-10
    after (exec (.call 0x2000) (base.setSp 0xD000)) (fun t => (flowView t, t.read8 0xCFFE, t.read8 0xCFFF)) =
      some ((0x2000, 0xCFFE, 24), 0x53, 0x01) := by decide
theorem test_call_z_not_taken :  -- V-CTL-11
    after (exec (.callZ 0x2000) (withF (base.setSp 0xD000) 0x00)) flowView = some (0x0153, 0xD000, 12) := by decide
theorem test_call_z_taken :  -- V-CTL-12
    after (exec (.callZ 0x2000) (withF (base.setSp 0xD000) 0x80)) flowView = some (0x2000, 0xCFFE, 24) := by decide
/-- The stack of V-CTL-13. -/
def stacked : State := poke (poke (base.setSp 0xCFFE) 0xCFFE 0x34) 0xCFFF 0x12
theorem test_ret :  -- V-CTL-13
    after (exec .ret stacked) flowView = some (0x1234, 0xD000, 16) := by decide
theorem test_ret_nc_taken :  -- V-CTL-14
    after (exec .retNC (withF stacked 0x00)) flowView = some (0x1234, 0xD000, 20) := by decide
theorem test_ret_nc_not_taken :  -- V-CTL-15
    after (exec .retNC (withF stacked 0x10)) flowView = some (0x0151, 0xCFFE, 8) := by decide
theorem test_reti :  -- V-CTL-16
    after (exec .reti stacked) (fun t => (flowView t, t.cpu.ime)) = some ((0x1234, 0xD000, 16), true) := by decide
theorem test_rst_38 :  -- V-CTL-17
    after (exec .rst38 (base.setSp 0xD000)) (fun t => (flowView t, t.read8 0xCFFE, t.read8 0xCFFF)) =
      some ((0x0038, 0xCFFE, 16), 0x51, 0x01) := by decide

/-! ### CPU control and the step -/

theorem test_nop :  -- V-SYS-1
    exec .nop base = .next ((base.setPc 0x0151).setCost 4) := by rfl
theorem test_nop_at_ffff :  -- V-SYS-2
    after (step (base.setPc 0xFFFF)) (fun t => (t.cpu.pc, t.cost)) = some (0x0000, 4) := by decide
/-- The illegal byte 0xDD at PC. -/
def illegalAtPc : State := poke base 0x0150 0xDD
theorem test_illegal_faults :  -- V-SYS-3
    after (step illegalAtPc) (fun t => (t.cpu.run, t.cpu.pc, t.cost, t.timer.div)) =
      some (.faulted 0x0150 0xDD, 0x0150, 0, 0xAB00) := by decide
theorem test_faulted_stays :  -- V-SYS-3
    after (step (base.setRun (.faulted 0x0150 0xDD))) (fun t => (t.cpu, t.cost, t.timer.div)) =
      some ((base.setRun (.faulted 0x0150 0xDD)).cpu, 0, 0xAB00) := by decide
/-- IE and IF set. -/
def irqs (s : State) (ie : Byte) (iflag : BitVec 5) : State := s.setIrq { flags := iflag, enable := ie }
theorem test_halt :  -- V-SYS-4
    after (exec .halt (irqs base 0x04 0x00)) (fun t => (t.cpu.run, t.cpu.pc, t.cost)) =
      some (.halted, 0x0151, 4) := by decide
theorem test_halt_bug :  -- V-SYS-5
    after (exec .halt (irqs base 0x04 0x04)) (fun t => (t.cpu.run, t.cpu.haltBug, t.cpu.pc)) =
      some (.running, true, 0x0151) := by decide
/-- INC A at PC with the halt bug pending. -/
def bugged : State :=
  let s := poke ((base.setReg .a 0x04).setPc 0x0151) 0x0151 0x3C
  s.setCpu { s.cpu with haltBug := true }
theorem test_halt_bug_refetches :  -- V-SYS-5, the first of the two INC A
    after (step bugged) (fun t => (t.reg .a, t.cpu.pc, t.cpu.haltBug, t.cost)) =
      some (0x05, 0x0151, false, 4) := by decide
theorem test_stop :  -- V-SYS-6
    after (exec .stop (base.setTimer { base.timer with div := 0x3C00 }))
      (fun t => (t.timer.div, t.cpu.run, t.cpu.pc, t.cost)) = some (0x0000, .stopped, 0x0152, 4) := by decide
theorem test_di :  -- V-SYS-7
    after (exec .di (base.setCpu { base.cpu with ime := true })) (fun t => (t.cpu.ime, t.cost)) =
      some (false, 4) := by decide
theorem test_ei :  -- V-INT-2, step 1
    after (exec .ei base) (fun t => (t.cpu.ime, t.cpu.eiPending, t.cost)) = some (false, true, 4) := by decide
theorem test_ei_commits :  -- V-INT-2, step 2
    after (step ((irqs base 0x01 0x01).setCpu { base.cpu with eiPending := true }))
      (fun t => (t.cpu.ime, t.cpu.eiPending, t.cpu.pc, t.cost)) = some (true, false, 0x0151, 4) := by decide
theorem test_dispatch_vblank_first :  -- V-INT-1, step 1
    after (step ((irqs base 0x1F 0x05).setCpu { base.cpu with ime := true, sp := 0xD000 }))
      (fun t => (flowView t, t.read8 0xCFFE, t.read8 0xCFFF, t.read8 0xFF0F, t.cpu.ime)) =
      some ((0x0040, 0xCFFE, 20), 0x50, 0x01, 0xE4, false) := by decide +kernel
theorem test_wake_without_dispatch :  -- 60 R318: IME = 0, the wake runs the next instruction
    after (step ((irqs base 0x04 0x04).setRun .halted)) (fun t => (t.cpu.run, t.cpu.pc, t.cost)) =
      some (.running, 0x0151, 4) := by decide
theorem test_fetch_word_from_reset :
    after (step (State.reset.withFetchWord 16 0xCB37)) (fun t => (t.reg .a, t.cpu.pc)) =
      some (0x10, 0x0102) := by decide

/-! ### Memory, banking, joypad, timer -/

theorem test_mirror : (base.write8 0xE123 0x5A).read8 0xC123 = 0x5A := by decide  -- V-MEM-1
theorem test_unusable : base.read8 0xFEA0 = 0x00 := by decide  -- V-MEM-2
theorem test_unmapped : (base.read8 0xFF03, base.read8 0xFF4C, base.read8 0xFF7F) = (0xFF, 0xFF, 0xFF) := by decide  -- V-MEM-3
theorem test_blocked_mode_2 :  -- V-MEM-5
    (lit.read8 0x8000, lit.read8 0xFE00, lit.read8 0xFEA0) = (0x00, 0xFF, 0xFF) := by decide
theorem test_bank_0_is_1 : ((mbc1 16 .none).write8 0x2000 0x00).read8 0x4000 = 1 := by decide  -- V-MBC-2
theorem test_bank_masked : ((mbc1 16 .none).write8 0x2000 0x1F).read8 0x4000 = 0x0F := by decide  -- V-MBC-3
theorem test_bank_21 :  -- V-MBC-5
    (((mbc1 64 .none).write8 0x4000 0x01).write8 0x2000 0x00).read8 0x4000 = 0x21 := by decide
theorem test_bank_lo_20 :  -- V-MBC-6
    (((mbc1 64 .none).write8 0x4000 0x01).write8 0x6000 0x01).read8 0x0000 = 0x20 := by decide
theorem test_ram_enable :  -- V-MBC-8
    (((mbc1 16 .kib8).write8 0x0000 0x1A).cart.ramEnable, ((mbc1 16 .kib8).write8 0x0000 0xA1).cart.ramEnable) =
      (true, false) := by decide
theorem test_p1_at_reset : lit.read8 0xFF00 = 0xCF := by decide  -- V-JOY-1
theorem test_p1_pressed :  -- V-JOY-2
    let t := (lit.setIrq { flags := 0, enable := 0 }).pushJoypad 0x11
    (t.read8 0xFF00, t.irq.flags) = (0xCE, 0x10) := by decide
theorem test_p1_not_selected :  -- V-JOY-4
    let t := ((lit.setIrq { flags := 0, enable := 0 }).write8 0xFF00 0x10).pushJoypad 0x01
    (t.read8 0xFF00, t.irq.flags) = (0xDF, 0x00) := by decide
/-- TIMA about to overflow: TAC = 5 and the divider one before an edge of bit 3. -/
def overflowing : State := base.setTimer { div := 0x000F, tima := 0xFF, tma := 0x23, tac := 5, reloadWait := 0 }
theorem test_tima_holds_zero :  -- 60 R343
    ((overflowing.tCycles 4).timer.tima, (overflowing.tCycles 4).irq.flags.getLsbD 2) = (0x00, false) := by decide
theorem test_tima_reloads :  -- 60 R343
    ((overflowing.tCycles 5).timer.tima, (overflowing.tCycles 5).irq.flags.getLsbD 2) = (0x23, true) := by decide

/-! ### The PPU -/

/-- Line 0 of a lit screen at a dot and in a mode. -/
def atDot (dot : Nat) (mode : Mode) : State := lit.setPpu { lit.ppu with dot := dot, mode := mode }
theorem test_drawing_starts :  -- V-PPU-T1, n = 80
    let p := (atDot 79 .oamScan).ppuTick.ppu
    (p.ly, p.dot, p.mode, p.drawLen) = (0, 80, .drawing, 172) := by decide +kernel
theorem test_hblank_starts :  -- V-PPU-T1, n = 252
    (atDot 251 .drawing).ppuTick.read8 0xFF41 = 0x84 := by decide +kernel
theorem test_line_1 :  -- V-PPU-T1, n = 456
    ((atDot 455 .hblank).ppuTick.read8 0xFF41, (atDot 455 .hblank).ppuTick.read8 0xFF44) =
      (0x82, 0x01) := by decide +kernel
theorem test_draw_len : mode3Len 0x03 true true 2 = 193 ∧ mode3Len 0x07 true true 10 = 245 := by decide  -- V-PPU-T2
theorem test_stat_write_requests :  -- V-PPU-T3
    ((lit.setIrq { flags := 0, enable := 0 }).write8 0xFF41 0x48).irq.flags = 0x02 := by decide
theorem test_lcd_off :  -- V-PPU-T5
    (lit.write8 0xFF40 0x11).read8 0xFF41 = 0x84 := by decide
/-- The common setup of 95 section 2.12. -/
def tiles : Memory := [(0x10, 0x3C), (0x11, 0x7E), (0x20, 0xFF), (0x1800, 0x01)]
/-- A PPU drawing line 0 with the given LCDC, palettes and objects. -/
def drawing (lcdc bgp obp0 obp1 : Byte) (objs : List Nat) : Ppu :=
  { lit.ppu with lcdc := lcdc, bgp := bgp, obp0 := obp0, obp1 := obp1, objs := objs }
/-- The first pixels of the line. -/
def pixels (n : Nat) (vram oam : Memory) (p : Ppu) : List (BitVec 2) :=
  (List.range n).map (p.pixelShade vram oam)
theorem test_background :  -- V-PPU-R1
    pixels 8 tiles [] (drawing 0x91 0xE4 0 0 []) = [0, 2, 3, 3, 3, 3, 2, 0] := by decide
theorem test_object_over :  -- V-PPU-R4
    pixels 8 tiles [(0, 0x10), (1, 0x08), (2, 0x02)] (drawing 0x93 0xE4 0xE4 0 [0]) =
      [1, 1, 1, 1, 1, 1, 1, 1] := by decide
theorem test_object_behind :  -- V-PPU-R5
    pixels 8 tiles [(0, 0x10), (1, 0x08), (2, 0x02), (3, 0x80)] (drawing 0x93 0xE4 0xE4 0 [0]) =
      [1, 2, 3, 3, 3, 3, 2, 1] := by decide
theorem test_object_smaller_x :  -- V-PPU-R7
    pixels 10 tiles [(0, 0x10), (1, 0x0A), (2, 0x02), (4, 0x10), (5, 0x09), (6, 0x02), (7, 0x10)]
      (drawing 0x93 0xE4 0xE4 0xE8 [0, 1]) = [0, 2, 2, 2, 2, 2, 2, 2, 2, 1] := by decide
theorem test_window :  -- V-PPU-R10: background up to sx 79, the window from sx 80
    let p := { drawing 0xF1 0xE4 0 0 [] with wyHit := true, wx := 0x57 }
    (p.pixelShade (tiles ++ [(0x1809, 0x01), (0x180A, 0x01)]) [] 78,
      p.pixelShade (tiles ++ [(0x1809, 0x01), (0x180A, 0x01)]) [] 81) = (2, 0) := by decide
/-- A lit screen showing the common setup, with the given PPU. -/
def showing (p : Ppu) : State :=
  let s := lit.setPpu p
  s.setMem { s.mem with vram := tiles }
/-- Line 0 in Drawing at a dot, with the window at sx 0 and up, on from its line. -/
def inWindow (dot : Nat) : State :=
  showing { drawing 0xF1 0xE4 0 0 [] with dot := dot, mode := .drawing, wyHit := true, wx := 0x07 }
theorem test_dot_draws_one_pixel :  -- 65 R377, R388: dot 95 of a line of 172 drawing dots draws pixel 3
    let t := (showing { drawing 0x91 0xE4 0 0 [] with dot := 94, mode := .drawing }).ppuTick
    (t.ppu.back, t.ppu.winDrawn) = ([(3, 3)], false) := by decide +kernel
theorem test_window_counts_its_lines :  -- 65 R377, R385: the line that drew the window advances win_line
    let t := (inWindow 250).ppuTick.ppuTick.ppu
    (t.winDrawn, t.winLine, t.dot, t.mode) = (true, 1, 252, .hblank) := by decide +kernel
theorem test_window_count_after_line_143 :  -- 65 R377, R385: the count after all 144 lines drew the window
    let t := (showing { (inWindow 251).ppu with ly := 143, winLine := 143, winDrawn := true }).ppuTick.ppu
    (t.winLine, t.mode) = (144, .hblank) := by decide +kernel

/-! ### Witnesses for the statements' hypotheses -/

/-- Interrupts enabled. -/
def withIme (s : State) : State := s.setCpu { s.cpu with ime := true }
/-- EI pending. -/
def withEi (s : State) : State := s.setCpu { s.cpu with eiPending := true }

theorem witness_DecodeIsTotal_ends :
    lengthOfOpcode 0xCB = 2 ∧ lengthOfOpcode 0xFE = 2 ∧ lengthOfOpcode 0x01 = 3 ∧ lengthOfOpcode 0xFA = 3 ∧
      lengthOfOpcode 0x00 = 1 ∧ lengthOfOpcode 0xFF = 1 := by decide
theorem witness_StepRunsTheDecodedInstruction :
    base.cpu.run = .running ∧ base.pending = none ∧
      decode [base.read8 base.cpu.pc, base.read8 base.cpu.pcAfterOpcode, base.read8 (base.cpu.pcAfterOpcode + 1)] =
        .ok (.nop, [0, 0]) ∧
      ∃ t, exec .nop base = .next t := ⟨by decide, by decide, by rfl, _, rfl⟩
theorem witness_StepRunsTheDecodedInstruction_haltBug :
    bugged.cpu.run = .running ∧ bugged.pending = none ∧
      decode [bugged.read8 bugged.cpu.pc, bugged.read8 bugged.cpu.pcAfterOpcode,
        bugged.read8 (bugged.cpu.pcAfterOpcode + 1)] = .ok (.incA, [0x3C, 0]) ∧
      ∃ t, exec .incA bugged = .next t := ⟨by decide, by decide, by rfl, _, rfl⟩
theorem witness_EiTakesEffectOneInstructionLate :
    (withEi base).cpu.run = .running ∧ (withEi base).pending = none ∧
      ∃ t, exec (withEi base).fetch (withEi base) = .next t ∧ ∀ a b, t.cpu.run ≠ .faulted a b :=
  ⟨by decide, by decide, ((withEi base).setPc 0x0151).setCost 4, by rfl, by intro a b h; cases h⟩
theorem witness_PendingIsTheLowestRequestedSource :
    (withIme (irqs base 0xF0 0x1F)).pending = some 4 ∧ (withIme (irqs base 0xE0 0x1F)).pending = none := by decide
theorem witness_DispatchTakesThePendingInterrupt :
    (withIme (irqs base 0x01 0x01)).cpu.run = .running ∧ (withIme (irqs base 0x01 0x01)).pending = some 0 ∧
      (withIme (irqs base 0x10 0x1F)).pending = some 4 := by decide
theorem witness_HaltAndWakeUp_bug :
    base.cpu.ime = false ∧ (irqs base 0x10 0x10).irq.enable.setWidth 5 &&& (irqs base 0x10 0x10).irq.flags ≠ 0 ∧
      base.params.haltBug = true := by decide
theorem witness_HaltAndWakeUp_halted :
    ((irqs base 0xE0 0x1F).setRun .halted).cpu.run = .halted ∧
      (irqs base 0xE0 0x1F).irq.enable.setWidth 5 &&& (irqs base 0xE0 0x1F).irq.flags = 0 := by decide
theorem witness_CostIsAMultipleOfFour :
    base.params.dmaCycles % 4 = 0 ∧ base.params.dispatchCycles % 4 = 0 ∧ ∃ t, step base = .next t :=
  ⟨by decide, by decide, _, rfl⟩
theorem witness_ResetState : ({} : Draws).wf .none = true := by decide
theorem witness_ResetState_draws :
    ({ vram := [(0, 1), (0x1FFF, 2)], wram := [(0x1FFF, 3)], oam := [(159, 4)], hram := [(126, 5)],
       wave := [(32, 6), (47, 7)], extRam := [(2047, 8)] } : Draws).wf .kib2 = true := by decide
/-- An image of n zero bytes, its header bytes at 0x0147 and 0x0149 as given. -/
def headed (n : Nat) (mbcByte ramByte : Byte) : List Byte :=
  List.replicate 0x0147 0 ++ [mbcByte, 0, ramByte] ++ List.replicate (n - 0x014A) 0
theorem headed_length (n : Nat) (x y : Byte) (h : 0x014A ≤ n) : (headed n x y).length = n := by
  unfold headed
  rw [List.length_append, List.length_append, List.length_replicate, List.length_replicate]
  show 0x0147 + 3 + (n - 0x014A) = n
  omega
theorem witness_LaunchMeetsTheInvariant :
    ({} : Draws).wf .none = true ∧ ∃ s, launch (headed 32768 0 0) .noMbc .none {} {} = .next s := by
  refine ⟨by decide, _, if_pos ?_⟩
  rw [headed_length _ _ _ (by decide)]; decide
theorem witness_LaunchAdmission_noMbc : (headed 32768 0 0).length = 32768 := headed_length _ _ _ (by decide)
theorem witness_LaunchAdmission_mbc1_smallest : (headed 0x8000 1 0).length = 0x4000 * 2 ^ 1 :=
  headed_length _ _ _ (by decide)
theorem witness_LaunchAdmission_mbc1_largest : (headed 0x200000 3 3).length = 0x4000 * 2 ^ 7 :=
  headed_length _ _ _ (by decide)
theorem witness_LaunchAdmission_refused :
    ¬((Mbc.mbc1 = .noMbc ∧ ([] : List Byte).length = 32768) ∨
      (Mbc.mbc1 = .mbc1 ∧ ∃ k, 1 ≤ k ∧ k ≤ 7 ∧ ([] : List Byte).length = 0x4000 * 2 ^ k)) := by
  rintro (⟨_, h⟩ | ⟨_, k, _, _, h⟩)
  · exact absurd h (by decide)
  · have := Nat.two_pow_pos k
    rw [List.length_nil] at h
    omega
theorem witness_LaunchAdmission_header :
    (headed 0x014A 0x03 0x03).getD 0x0147 0 = 0x03 ∧ (headed 0x014A 0x03 0x03).getD 0x0149 0 = 0x03 := by
  decide +kernel
theorem witness_LaunchAdmission_header_refused :
    (headed 0x014A 0x04 0x00).getD 0x0147 0 ∉ ([0x00, 0x08, 0x09, 0x01, 0x02, 0x03] : List Byte) := by
  decide +kernel
theorem witness_StepKeepsTheInvariant : base.inv = true ∧ ∃ t, step base = .next t := ⟨by decide +kernel, _, rfl⟩
theorem witness_StepKeepsTheInvariant_lit :
    lit.inv = true ∧ ∃ t, hostAct (.joypad 0x11) lit = .next t := ⟨by decide +kernel, _, rfl⟩
theorem witness_StepKeepsTheInvariant_mbc1 :
    (mbc1 64 .kib32).inv = true ∧ ∃ t, hostAct (.writeRam [1, 2, 3]) (mbc1 64 .kib32) = .next t :=
  ⟨by decide +kernel, _, rfl⟩
theorem witness_ConfigurationIsFixed_step : ∃ t, hostAct .systemStep lit = .next t := ⟨_, rfl⟩
theorem witness_ConfigurationIsFixed_joypad : ∃ t, hostAct (.joypad 0x01) lit = .next t := ⟨_, rfl⟩
theorem witness_ConfigurationIsFixed_writeRam : ∃ t, hostAct (.writeRam [0x01]) lit = .next t := ⟨_, rfl⟩
theorem witness_IllegalOpcodeIsTheOnlyFault_word : (Instr.illegalED).illegalByte = some 0xED := by decide
theorem witness_IllegalOpcodeIsTheOnlyFault_step :
    (∃ t, step illegalAtPc = .next t ∧ t.cpu.run = .faulted 0x0150 0xDD) ∧
      ∀ a b, illegalAtPc.cpu.run ≠ .faulted a b :=
  ⟨⟨_, rfl, by decide⟩, by intro a b h; cases h⟩
theorem witness_IllegalOpcodeIsTheOnlyFault_faulted :
    (base.setRun (.faulted 0x0150 0xDD)).cpu.run = .faulted 0x0150 0xDD := by decide
theorem witness_ReadAfterWrite_ends :
    ([0x8000, 0x9FFF, 0xC000, 0xFDFF, 0xFE00, 0xFE9F, 0xFF80, 0xFFFF] : List Word).all (fun a =>
      !base.blocked a &&
        (decide (0x8000 ≤ a.toNat ∧ a.toNat < 0xFEA0 ∧
          (0xA000 ≤ a.toNat → a.toNat < 0xC000 → base.cart.ramOpen = true)) || decide (0xFF80 ≤ a.toNat))) = true := by
  decide
theorem witness_ReadAfterWrite_extRam :
    ((mbc1 16 .kib8).write8 0x0000 0x0A).cart.ramOpen = true ∧
      ((mbc1 16 .kib8).write8 0x0000 0x0A).blocked 0xA000 = false ∧
      ((mbc1 16 .kib8).write8 0x0000 0x0A).blocked 0xBFFF = false := by decide
theorem witness_WriteTouchesOnlyItsCells :
    touches base 0xC000 0xC001 = false ∧ touches base 0xFF04 0xFF06 = false ∧ touches base 0x2000 0x4000 = false ∧
      touches (mbc1 16 .kib8) 0x2000 0x0000 = false := by decide
theorem witness_ContentionBlocks_vram :
    (atDot 80 .drawing).params.contention = true ∧ bitOf (atDot 80 .drawing).ppu.lcdc 7 = true ∧
      (atDot 80 .drawing).ppu.mode = .drawing ∧ 0x8000 ≤ (0x8000 : Word).toNat ∧
      (0x9FFF : Word).toNat < 0xA000 := by decide
theorem witness_ContentionBlocks_oam :
    lit.params.contention = true ∧ bitOf lit.ppu.lcdc 7 = true ∧ lit.ppu.mode = .oamScan ∧
      0xFE00 ≤ (0xFE00 : Word).toNat ∧ (0xFEFF : Word).toNat < 0xFF00 := by decide
theorem witness_ContentionBlocks_not : bitOf base.ppu.lcdc 7 = false := by decide
theorem witness_ContentionBlocks_write : (0xFF41 : Word) ≠ 0xFF40 := by decide
theorem witness_ContentionBlocks_beside : (0xFF41 : Word) = 0xFF40 + 1 ∧ (0xFF3F : Word) = 0xFF40 - 1 := by decide
theorem witness_ContentionBlocks_mirror :
    0xE000 ≤ (0xE000 : Word).toNat ∧ (0xFDFF : Word).toNat < 0xFE00 := by decide
/-- NoMBC with 2 KiB of RAM. -/
def ramCart : State := State.power .noMbc 2 .kib2 [] {} {}
theorem witness_CartridgeBanking_noMbc :
    ramCart.cart.mbc = .noMbc ∧ 0 < ramCart.cart.ramSize.bytes ∧ ¬0 < base.cart.ramSize.bytes := by decide
theorem witness_CartridgeBanking_mbc1 :
    let s := (mbc1 16 .kib8).write8 0x0000 0x0A
    s.cart.mbc = .mbc1 ∧ s.cart.ramEnable = true ∧ 0 < s.cart.ramSize.bytes ∧
      (mbc1 16 .kib8).cart.ramEnable = false := by decide
theorem witness_CartridgeBanking_ends :
    (0x3FFF : Word).toNat < 0x4000 ∧ 0x4000 ≤ (0x4000 : Word).toNat ∧ (0x7FFF : Word).toNat < 0x8000 ∧
      0xA000 ≤ (0xA000 : Word).toNat ∧ (0xBFFF : Word).toNat < 0xC000 := by decide
theorem witness_CartridgeBanking_small : (mbc1 32 .none).cart.romBanks ∣ 32 := by decide
theorem witness_Mbc1Registers :
    (mbc1 16 .kib8).cart.mbc = .mbc1 ∧ (0x1FFF : Word).toNat < 0x2000 ∧ 0x2000 ≤ (0x2000 : Word).toNat ∧
      (0x3FFF : Word).toNat < 0x4000 ∧ 0x4000 ≤ (0x4000 : Word).toNat ∧ (0x5FFF : Word).toNat < 0x6000 ∧
      0x6000 ≤ (0x6000 : Word).toNat ∧ (0x7FFF : Word).toNat < 0x8000 := by decide
theorem witness_Mbc1Registers_large :
    ∀ banks ∈ [32, 64, 128], (mbc1 banks .kib8).cart.bank1 ≠ 0 ∧ 32 ∣ (mbc1 banks .kib8).cart.romBanks := by decide
theorem witness_DmaCopiesAPage : Memory.wf 160 base.mem.oam = true := by decide
theorem witness_IoRegistersReadBack :
    0xFF10 ≤ (0xFF10 : Word).toNat ∧ (0xFF3F : Word).toNat ≤ 0xFF3F ∧ 0xFF08 ≤ (0xFF08 : Word).toNat ∧
      (0xFF0E : Word).toNat ≤ 0xFF0E ∧ 0xFF4C ≤ (0xFF4C : Word).toNat ∧ (0xFF7F : Word).toNat ≤ 0xFF7F := by decide
theorem witness_JoypadLinesAndStop_fell :
    ∃ i < 4, bitOf (lit.read8 0xFF00) i = true ∧ bitOf ((lit.pushJoypad 0x80).read8 0xFF00) i = false := by decide
theorem witness_JoypadLinesAndStop_write :
    let s := (lit.write8 0xFF00 0x30).pushJoypad 0x01
    ∃ i < 4, bitOf (s.read8 0xFF00) i = true ∧ bitOf ((s.write8 0xFF00 0x20).read8 0xFF00) i = false := by decide
theorem witness_JoypadLinesAndStop_still :
    ¬∃ i < 4, bitOf (lit.read8 0xFF00) i = true ∧ bitOf ((lit.pushJoypad 0).read8 0xFF00) i = false := by decide
theorem witness_JoypadLinesAndStop_stopped : (base.setRun .stopped).cpu.run = .stopped := by decide
theorem witness_JoypadLinesAndStop_wakes :
    let s := base.setRun .stopped
    s.cpu.run = .stopped ∧ hostAct (.joypad 0x01) s = .next (s.pushJoypad 0x01) ∧
      (s.pushJoypad 0x01).cpu.run ≠ .stopped := ⟨by decide, rfl, by decide⟩
theorem witness_TimaCountsDividerEdges_off :
    base.timer.reloadWait = 0 ∧ base.timer.tac.getLsbD 2 = false := by decide
theorem witness_TimaCountsDividerEdges_on :
    ∀ x ∈ [((0 : Nat), (1024 : Nat)), (1, 16), (2, 64), (3, 256)],
      let s := base.setTimer { base.timer with tac := BitVec.ofNat 3 (4 + x.1), tima := 0xFE }
      s.timer.reloadWait = 0 ∧ s.timer.tac.getLsbD 2 = true ∧ s.timer.tima ≠ 0xFF ∧
        s.timer.tac.toNat % 4 = x.1 := by decide
theorem witness_TimaReloadsAfterTheDelay :
    0 < overflowing.params.timaReloadDelay ∧ overflowing.params.timaReloadDelay < 16 ∧
      overflowing.timer.reloadWait = 0 ∧ overflowing.timer.tima = 0xFF ∧
      timerSig overflowing.timer.div overflowing.timer.tac = true ∧
      timerSig (overflowing.timer.div + 1) overflowing.timer.tac = false := by decide
theorem witness_TimerRegisterWrites :
    timerSig 0x0008 5 = true ∧ (timerSig 0x0008 5 && !timerSig 0x0008 6) = true := by decide
theorem witness_BeamMovesOneDotPerCycle : lit.ppu.inv = true ∧ lit.ppu.lcdOn = true := by decide
/-- The start of a line of a lit screen. -/
def lineStart (ly : Nat) : Ppu := { lit.ppu with ly := ly, mode := modeAt ly 0 172 }
theorem witness_LineModes :
    ∀ ly ∈ [0, 142, 143, 144, 152, 153], (lineStart ly).inv = true ∧ (lineStart ly).lcdOn = true ∧
      (lineStart ly).dot = 0 := by decide
theorem witness_VBlankEntry :
    let p := { lit.ppu with ly := 143, dot := 455, mode := .hblank }
    p.inv = true ∧ p.lcdOn = true := by decide
theorem witness_VBlankEntry_off : base.ppu.inv = true ∧ base.ppu.lcdOn = false := by decide
theorem witness_LcdOnOff :
    lit.ppu.inv = true ∧ bitOf lit.ppu.lcdc 7 = true ∧ base.ppu.inv = true ∧ bitOf base.ppu.lcdc 7 = false ∧
      bitOf 0x91 7 = true ∧ bitOf 0x11 7 = false := by decide
theorem witness_StatInterruptOnRisingEdge : lit.ppu.lcdOn = true ∧ ∃ v, lit.write8 0xFF41 0x48 = lit.write8 0xFF41 v :=
  ⟨by decide, 0x48, rfl⟩
/-- Line 0 at dot 79 with the window and the objects on, two entries covering the line. -/
def scanning : State :=
  (atDot 79 .oamScan).setPpu { lit.ppu with lcdc := 0xF3, scx := 0x03, wx := 0xA6, dot := 79 }
theorem witness_DotEightyScansOam :
    scanning.ppu.inv = true ∧ scanning.ppu.lcdOn = true ∧ scanning.ppu.ly < 144 ∧ scanning.ppu.dot = 79 ∧
      bitOf scanning.ppu.lcdc 5 = true ∧ bitOf scanning.ppu.lcdc 0 = true ∧ scanning.ppu.ly = scanning.ppu.wy.toNat ∧
      scanning.ppu.wx.toNat ≤ 166 := by decide
/-- `scanning` with P_MODE3_LEN another function than the formula. -/
def scanningOther : State := { scanning with params := { scanning.params with mode3Len := .other 0 } }
theorem witness_DotEightyScansOam_length :
    scanning.params.mode3Len = .formula ∧ scanningOther.ppu.inv = true ∧ scanningOther.ppu.lcdOn = true ∧
      scanningOther.ppu.ly < 144 ∧ scanningOther.ppu.dot = 79 ∧ scanningOther.params.mode3Len = .other 0 := by decide
/-- The last dot of Drawing on a line, whose window was or was not drawn. -/
def drawnOut (ly winLine : Nat) (winDrawn : Bool) : Ppu :=
  { drawing 0xF1 0xE4 0 0 [] with
    ly := ly, dot := 251, mode := .drawing, wyHit := true, winLine := winLine, winDrawn := winDrawn }
theorem witness_DotEightyScansOam_ends :
    ∀ x ∈ [(0, 0, true), (142, 142, true), (143, 143, true), (143, 0, false)],
      let p := drawnOut x.1 x.2.1 x.2.2
      p.inv = true ∧ p.lcdOn = true ∧ p.ly < 144 ∧ p.dot + 1 = 80 + p.drawLen := by decide
theorem witness_DotEightyScansOam_range :
    let p := { (inWindow 100).ppu with ly := 143, winLine := 143, wyHit := true }
    p.inv = true ∧ (showing p).ppuTick.ppu.ly < 144 ∧ (showing p).ppuTick.ppu.mode ≠ .hblank := by decide +kernel
theorem witness_DotEightyScansOam_wraps :
    let p := { lineStart 153 with dot := 455 }
    p.inv = true ∧ p.lcdOn = true ∧ p.ly = 153 ∧ p.dot = 455 := by decide
theorem witness_DotEightyScansOam_none :
    lit.ppu.inv = true ∧ lit.ppu.lcdOn = true ∧ lit.ppu.dot ≠ 79 ∧ lit.ppu.dot + 1 ≠ 80 + lit.ppu.drawLen ∧
      lit.ppu.dot ≠ 455 := by decide
theorem witness_ObjectPriority :
    ((drawing 0x93 0xE4 0xE4 0 [0, 1]).objWinner tiles
      [(0, 0x10), (1, 0x09), (2, 0x02), (4, 0x10), (5, 0x09), (6, 0x02)] 1).map ObjPixel.index = some 0 := by decide
theorem witness_TileRowExample :
    Store.get tiles 0x10 = 0x3C ∧ Store.get tiles (0x10 + 1) = 0x7E ∧ (7 : Nat) < 8 ∧ (159 : Nat) < 160 := by decide
theorem witness_TileRowExample_object :
    (drawing 0x93 0xE4 0xE4 0 [0]).objPixel tiles [(0, 0x10), (1, 0x08), (2, 0x02), (3, 0x80)] 7 0 =
      some { x := 8, index := 0, color := 1, attr := 0x80 } := by decide
/-- A dot that draws nothing, the one that draws pixel 0, and the last, which draws pixel 159. -/
theorem witness_TileRowExample_dots :
    ∀ dot ∈ [90, 91, 250], (inWindow dot).ppu.inv = true ∧ (inWindow dot).ppu.lcdOn = true ∧
      (inWindow dot).ppuTick.ppu.dot = dot + 1 ∧ 80 + (inWindow dot).ppuTick.ppu.drawLen = 252 := by decide +kernel
theorem witness_TileRowExample_wins :
    let s := showing { drawing 0x93 0xE4 0xE4 0 [0] with dot := 91, mode := .drawing }
    let u := s.setMem { s.mem with oam := [(0, 0x10), (1, 0x08), (2, 0x02)] }
    u.ppu.inv = true ∧ bitOf u.ppuTick.ppu.lcdc 1 = true ∧ u.ppuTick.ppu.objs = [0] ∧
      u.ppuTick.ppu.objPixel u.mem.vram u.mem.oam 0 0 =
        some { x := 8, index := 0, color := 1, attr := 0 } := by decide +kernel
theorem witness_MemoryStores_touch_nothing_else : touches base base.hl 0xC000 = false := by decide
theorem witness_PairWrites_ld : ∃ nn, Instr.ldSPNn 0xFFFE = Instr.ldPairImm .sp nn ∧ nn = 0xFFFE := ⟨_, rfl, rfl⟩
theorem witness_PairWrites_inc : Instr.incBC = Instr.incPair .bc ∧ base.pairOf .bc + 1 = 0x0014 := by decide
theorem witness_PairWrites_dec : Instr.decSP = Instr.decPair .sp ∧ base.pairOf .sp - 1 = 0xFFFD := by decide
theorem witness_DaaIsDecimal : (99 : Nat) < 100 ∧ (0 : Nat) < 100 := by decide
theorem witness_CpuControl_stop_reads : (0xC000 : Word) ≠ 0xFF04 ∧ (0xC000 : Word) ≠ 0xFF05 := by decide

end Sys2Proof.Tests
end

section
/-! SUPPORT. Totality of the step and what it costs: every instruction answers a next state, and so every
`SystemStep` does (00 R14); the state of the CPU's step is one of a few, guards included (60 R311), and each of
them costs a multiple of 4 T-cycles (00 R11). -/

namespace Sys2Proof.Machine

variable {s t u : State}

/-! ### The CPU's step, by its branches (60 R311, R315) -/

theorem executeNext_next_iff :
    executeNext s = .next u ↔ ∃ t, exec s.fetch s = .next t ∧ u = t.commitEi s.cpu.eiPending := by
  unfold executeNext
  cases exec s.fetch s <;> simp [eq_comm]

theorem runCpu_next_iff :
    runCpu s = .next u ↔ (∃ k, s.pending = some k ∧ u = s.dispatch k) ∨
      (s.pending = none ∧ executeNext s = .next u) := by
  unfold runCpu
  cases s.pending <;> simp [eq_comm]

/-- Stopped and Faulted stand still, Halted idles until a source is requested, and then, as from Running, an
interrupt is dispatched or an instruction runs. -/
theorem cpuStep_next_iff :
    cpuStep s = .next u ↔
      ((s.cpu.run = .stopped ∨ ∃ a b, s.cpu.run = .faulted a b) ∧ u = s.setCost 0) ∨
      (s.cpu.run = .halted ∧ s.requested = 0 ∧ u = s.setCost 4) ∨
      (s.cpu.run = .halted ∧ s.requested ≠ 0 ∧ runCpu (s.setRun .running) = .next u) ∨
      (s.cpu.run = .running ∧ runCpu s = .next u) := by
  unfold cpuStep
  cases s.cpu.run with
  | faulted a b => simp [eq_comm]
  | stopped => simp [eq_comm]
  | halted =>
    by_cases h : s.requested = 0#5
    · simp [h, eq_comm]
    · simp [h]
  | running => simp

/-! ### No step stops (00 R14; 20 R61, R62; 47 R296) -/

/-- Each arm of `exec`, those of the illegal bytes included, is a next state. -/
theorem exec_total (i : Instr) (s : State) : ∃ t, exec i s = .next t := by
  cases i <;> exact ⟨_, rfl⟩

theorem executeNext_total (s : State) : ∃ u, executeNext s = .next u := by
  obtain ⟨t, h⟩ := exec_total s.fetch s
  exact ⟨_, executeNext_next_iff.mpr ⟨t, h, rfl⟩⟩

theorem runCpu_total (s : State) : ∃ u, runCpu s = .next u := by
  cases h : s.pending with
  | some k => exact ⟨_, runCpu_next_iff.mpr (.inl ⟨k, h, rfl⟩)⟩
  | none =>
    obtain ⟨u, hu⟩ := executeNext_total s
    exact ⟨u, runCpu_next_iff.mpr (.inr ⟨h, hu⟩)⟩

theorem cpuStep_total (s : State) : ∃ u, cpuStep s = .next u := by
  cases hrun : s.cpu.run with
  | faulted a b => exact ⟨_, cpuStep_next_iff.mpr (.inl ⟨.inr ⟨a, b, hrun⟩, rfl⟩)⟩
  | stopped => exact ⟨_, cpuStep_next_iff.mpr (.inl ⟨.inl hrun, rfl⟩)⟩
  | halted =>
    by_cases hreq : s.requested = 0
    · exact ⟨_, cpuStep_next_iff.mpr (.inr (.inl ⟨hrun, hreq, rfl⟩))⟩
    · obtain ⟨u, hu⟩ := runCpu_total (s.setRun .running)
      exact ⟨u, cpuStep_next_iff.mpr (.inr (.inr (.inl ⟨hrun, hreq, hu⟩)))⟩
  | running =>
    obtain ⟨u, hu⟩ := runCpu_total s
    exact ⟨u, cpuStep_next_iff.mpr (.inr (.inr (.inr ⟨hrun, hu⟩)))⟩

theorem step_total (s : State) : ∃ t, step s = .next t := by
  obtain ⟨u, h⟩ := cpuStep_total s
  exact ⟨_, step_next_iff.mpr ⟨u, h, rfl⟩⟩

/-! ### What a step costs (60 R311; 20 R81) -/

@[simp] theorem commitEi_cost (s : State) (commit : Bool) : (s.commitEi commit).cost = s.cost := by
  rw [commitEi_spec]

/-- Nothing an instruction is built of changes the parameters (10 R56). -/
theorem Built.params_eq (h : Built s t) : t.params = s.params := by
  induction h with
  | fetch len => rfl
  | regs c _ _ _ ih => exact ih
  | write a v _ ih => exact (write8_config _ a v).1.trans ih
  | charge n _ _ ih => exact ih

/-- A bus write charges nothing, or a DMA's cycles. -/
theorem dmaCharge_mod_four (h : s.params.dmaCycles % 4 = 0) (a : Word) : dmaCharge s a % 4 = 0 := by
  unfold dmaCharge
  split
  · exact h
  · rfl

/-- The fetch starts the cost from 0; charges and DMA writes add multiples of 4 to it. -/
theorem Built.cost_mod_four (hdma : s.params.dmaCycles % 4 = 0) (h : Built s t) : t.cost % 4 = 0 := by
  induction h with
  | fetch len => rfl
  | regs c _ _ _ ih => exact ih
  | @write t a v hb ih =>
    have hw : dmaCharge t a % 4 = 0 := dmaCharge_mod_four (hb.params_eq ▸ hdma) a
    rw [write8_cost]
    omega
  | charge n _ hn ih =>
    rw [State.charge_cost]
    omega

theorem haltCpu_cost (s : State) : (haltCpu s).cost = 4 := by
  unfold haltCpu
  simp only [State.charge_cost]
  split <;> rfl

theorem stopCpu_cost (s : State) : (stopCpu s).cost = 4 := rfl

theorem illegalOpcode_cost (s : State) (b : Byte) : (s.illegalOpcode b).cost = 0 := rfl

theorem dispatch_cost (s : State) (k : Nat) : (s.dispatch k).cost = s.params.dispatchCycles := rfl

theorem exec_cost_mod_four {i : Instr} (hdma : s.params.dmaCycles % 4 = 0) (h : exec i s = .next t) :
    t.cost % 4 = 0 := by
  obtain hb | ⟨-, rfl⟩ | ⟨-, rfl⟩ | ⟨b, -, rfl⟩ := exec_shape h
  · exact hb.cost_mod_four hdma
  · rw [haltCpu_cost]
  · rw [stopCpu_cost]
  · rw [illegalOpcode_cost]

theorem runCpu_cost_mod_four (hdma : s.params.dmaCycles % 4 = 0) (hdispatch : s.params.dispatchCycles % 4 = 0)
    (h : runCpu s = .next u) : u.cost % 4 = 0 := by
  obtain ⟨k, -, rfl⟩ | ⟨-, h⟩ := runCpu_next_iff.mp h
  · rw [dispatch_cost, hdispatch]
  · obtain ⟨t, ht, rfl⟩ := executeNext_next_iff.mp h
    rw [commitEi_cost]
    exact exec_cost_mod_four hdma ht

theorem cpuStep_cost_mod_four (hdma : s.params.dmaCycles % 4 = 0)
    (hdispatch : s.params.dispatchCycles % 4 = 0) (h : cpuStep s = .next u) : u.cost % 4 = 0 := by
  obtain ⟨-, rfl⟩ | ⟨-, -, rfl⟩ | ⟨-, -, h⟩ | ⟨-, h⟩ := cpuStep_next_iff.mp h
  · rw [State.setCost_cost]
  · rw [State.setCost_cost]
  · exact runCpu_cost_mod_four (s := s.setRun .running) hdma hdispatch h
  · exact runCpu_cost_mod_four hdma hdispatch h

/-- The cost a step answers is the CPU's step's: the ticks leave it (60 R310). -/
theorem step_cost_mod_four (hdma : s.params.dmaCycles % 4 = 0) (hdispatch : s.params.dispatchCycles % 4 = 0)
    (h : step s = .next t) : t.cost % 4 = 0 := by
  obtain ⟨u, hu, rfl⟩ := step_next_iff.mp h
  obtain ⟨-, -, -, -, -, -, -, hcost⟩ := tCycles_kept u u.cost
  rw [hcost]
  exact cpuStep_cost_mod_four hdma hdispatch hu

end Sys2Proof.Machine

namespace Sys2Proof.Proofs

open Sys2Proof.Machine

/-- Settles O10: a step's cost is the CPU's step's, which each of its branches makes a multiple of 4. -/
theorem costIsAMultipleOfFour : Obligations.CostIsAMultipleOfFour := by
  unfold Obligations.CostIsAMultipleOfFour
  intro s t hdma hdispatch h
  exact step_cost_mod_four hdma hdispatch h

/-- Settles O5: `exec` answers a next state in each arm, and the step's branches add no other outcome. -/
theorem noStepStops : Obligations.NoStepStops := by
  unfold Obligations.NoStepStops
  exact ⟨exec_total, step_total⟩

end Sys2Proof.Proofs
end

section
/-! SUPPORT. The configuration of a run (10 R56) as one projection of the state: each operation leaves it, so every
step and every other action of the host does. -/

namespace Sys2Proof.Machine

variable {s t u : State}

/-- What is fixed for a run: P_ROM, P_MBC, P_RAM_SIZE, the number of ROM banks and the parameters (10 R56). -/
def State.configuration (s : State) : Memory × Mbc × RamSize × Nat × Params :=
  (s.cart.rom, s.cart.mbc, s.cart.ramSize, s.cart.romBanks, s.params)

theorem configuration_eq_iff :
    t.configuration = s.configuration ↔
      t.cart.rom = s.cart.rom ∧ t.cart.mbc = s.cart.mbc ∧ t.cart.ramSize = s.cart.ramSize ∧
        t.cart.romBanks = s.cart.romBanks ∧ t.params = s.params := by
  simp only [State.configuration, Prod.mk.injEq]

/-- The configuration lies in the cartridge and the parameters. -/
theorem configuration_congr (hcart : t.cart = s.cart) (hparams : t.params = s.params) :
    t.configuration = s.configuration := by
  unfold State.configuration
  rw [hcart, hparams]

/-! ### The shared operations -/

@[simp] theorem setCpu_configuration (s : State) (c : Cpu) :
    (s.setCpu c).configuration = s.configuration := rfl
@[simp] theorem setRun_configuration (s : State) (r : Run) :
    (s.setRun r).configuration = s.configuration := rfl
@[simp] theorem setPc_configuration (s : State) (v : Word) :
    (s.setPc v).configuration = s.configuration := rfl
@[simp] theorem setSp_configuration (s : State) (v : Word) :
    (s.setSp v).configuration = s.configuration := rfl
@[simp] theorem setCost_configuration (s : State) (n : Nat) :
    (s.setCost n).configuration = s.configuration := rfl
@[simp] theorem charge_configuration (s : State) (n : Nat) :
    (s.charge n).configuration = s.configuration := rfl
@[simp] theorem advance_configuration (s : State) (len : Nat) :
    (s.advance len).configuration = s.configuration := rfl
@[simp] theorem acknowledge_configuration (s : State) (k : Nat) :
    (s.acknowledge k).configuration = s.configuration := rfl
@[simp] theorem illegalOpcode_configuration (s : State) (b : Byte) :
    (s.illegalOpcode b).configuration = s.configuration := rfl
@[simp] theorem stopCpu_configuration (s : State) : (stopCpu s).configuration = s.configuration := rfl
@[simp] theorem writeExtRam_configuration (s : State) (bytes : List Byte) :
    (s.writeExtRam bytes).configuration = s.configuration := rfl

@[simp] theorem write8_configuration (s : State) (a : Word) (v : Byte) :
    (s.write8 a v).configuration = s.configuration := by
  obtain ⟨hparams, hmbc, hromBanks, hramSize, hrom⟩ := write8_config s a v
  exact configuration_eq_iff.mpr ⟨hrom, hmbc, hramSize, hromBanks, hparams⟩

@[simp] theorem push16_configuration (s : State) (v : Word) :
    (s.push16 v).configuration = s.configuration := by
  simp [State.push16]

@[simp] theorem dispatch_configuration (s : State) (k : Nat) :
    (s.dispatch k).configuration = s.configuration := by
  simp [State.dispatch]

/-- HALT sets the halt bug or halts, and changes the CPU alone in either case (47 R291). -/
@[simp] theorem haltCpu_configuration (s : State) : (haltCpu s).configuration = s.configuration := by
  unfold haltCpu
  simp only [charge_configuration]
  split <;> rfl

@[simp] theorem commitEi_configuration (s : State) (commit : Bool) :
    (s.commitEi commit).configuration = s.configuration := by
  rw [commitEi_spec]
  rfl

@[simp] theorem tCycles_configuration (s : State) (n : Nat) :
    (s.tCycles n).configuration = s.configuration := by
  obtain ⟨-, hcart, -, -, -, -, hparams, -⟩ := tCycles_kept s n
  exact configuration_congr hcart hparams

@[simp] theorem pushJoypad_configuration (s : State) (sample : Byte) :
    (s.pushJoypad sample).configuration = s.configuration := by
  obtain ⟨run, flags, h, -⟩ := changePad_spec s { s.pad with buttons := sample }
  rw [State.pushJoypad, h]
  rfl

/-! ### The instructions, the step and the host's actions -/

theorem Built.configuration_eq (h : Built s t) : t.configuration = s.configuration := by
  induction h with
  | fetch len => exact advance_configuration s len
  | regs c _ _ _ ih => exact (setCpu_configuration _ c).trans ih
  | write a v _ ih => exact (write8_configuration _ a v).trans ih
  | charge n _ _ ih => exact (charge_configuration _ n).trans ih

theorem exec_configuration {i : Instr} (h : exec i s = .next t) : t.configuration = s.configuration := by
  obtain hb | ⟨-, rfl⟩ | ⟨-, rfl⟩ | ⟨b, -, rfl⟩ := exec_shape h
  · exact hb.configuration_eq
  · exact haltCpu_configuration s
  · exact stopCpu_configuration s
  · exact illegalOpcode_configuration s b

theorem runCpu_configuration (h : runCpu s = .next u) : u.configuration = s.configuration := by
  obtain ⟨k, -, rfl⟩ | ⟨-, h⟩ := runCpu_next_iff.mp h
  · exact dispatch_configuration s k
  · obtain ⟨t, ht, rfl⟩ := executeNext_next_iff.mp h
    exact (commitEi_configuration t _).trans (exec_configuration ht)

theorem cpuStep_configuration (h : cpuStep s = .next u) : u.configuration = s.configuration := by
  obtain ⟨-, rfl⟩ | ⟨-, -, rfl⟩ | ⟨-, -, h⟩ | ⟨-, h⟩ := cpuStep_next_iff.mp h
  · exact setCost_configuration s 0
  · exact setCost_configuration s 4
  · exact (runCpu_configuration h).trans (setRun_configuration s .running)
  · exact runCpu_configuration h

theorem step_configuration (h : step s = .next t) : t.configuration = s.configuration := by
  obtain ⟨u, hu, rfl⟩ := step_next_iff.mp h
  exact (tCycles_configuration u u.cost).trans (cpuStep_configuration hu)

theorem hostAct_configuration {x : HostAction} (h : hostAct x s = .next t) :
    t.configuration = s.configuration := by
  cases x with
  | systemStep => exact step_configuration h
  | joypad sample =>
    cases h
    exact pushJoypad_configuration s sample
  | writeRam bytes =>
    cases h
    exact writeExtRam_configuration s bytes

end Sys2Proof.Machine

namespace Sys2Proof.Proofs

open Sys2Proof.Machine

/-- Settles O16: every action of the host keeps the configuration, a step by what its instruction is built of. -/
theorem configurationIsFixed : Obligations.ConfigurationIsFixed := by
  unfold Obligations.ConfigurationIsFixed
  intro x s t h
  exact configuration_eq_iff.mp (hostAct_configuration h)

end Sys2Proof.Proofs
end

section
/-! SUPPORT. The launch's admission and the loader's two header bytes, as the lists of 20 R90. -/

namespace Sys2Proof

theorem cartAdmitted_iff (mbc : Mbc) (n : Nat) :
    cartAdmitted mbc n = true ↔
      (mbc = .noMbc ∧ n = 32768) ∨ (mbc = .mbc1 ∧ ∃ k, 1 ≤ k ∧ k ≤ 7 ∧ n = 0x4000 * 2 ^ k) := by
  have hks : ∀ k, k ∈ [1, 2, 3, 4, 5, 6, 7] ↔ 1 ≤ k ∧ k ≤ 7 := fun k => by
    simp only [List.mem_cons, List.not_mem_nil, or_false]
    omega
  cases mbc
  · simp [cartAdmitted]
  · simp only [cartAdmitted, List.any_eq_true, hks, beq_iff_eq, and_assoc, reduceCtorEq, false_and, false_or,
      true_and]

/-- An admitted ROM is a whole number of banks (20 R93). -/
theorem bankSize_dvd_of_cartAdmitted {mbc : Mbc} {n : Nat} (h : cartAdmitted mbc n = true) : 0x4000 ∣ n := by
  obtain ⟨-, rfl⟩ | ⟨-, k, -, -, rfl⟩ := (cartAdmitted_iff mbc n).mp h
  · decide
  · exact Nat.dvd_mul_right _ _

end Sys2Proof

namespace Sys2Proof.Machine

variable {image : List Byte} {mbc : Mbc} {ramSize : RamSize} {p : Params} {d : Draws}

theorem launch_of_admitted (h : cartAdmitted mbc image.length = true) :
    launch image mbc ramSize p d =
      .next (State.power mbc (image.length / 0x4000) ramSize (Store.ofList 0 image) p d) := if_pos h

theorem launch_of_not_admitted (h : ¬cartAdmitted mbc image.length = true) :
    launch image mbc ramSize p d = .refused .cartridgeNotAdmitted := if_neg h

/-- The loader's list of variants. -/
theorem mbcOfHeader_eq_some {v : Byte} {mbc : Mbc}
    (h : mbc = .noMbc ∧ v ∈ [0x00, 0x08, 0x09] ∨ mbc = .mbc1 ∧ v ∈ [0x01, 0x02, 0x03]) :
    mbcOfHeader v = some mbc := by
  simp only [List.mem_cons, List.not_mem_nil, or_false] at h
  obtain ⟨rfl, rfl | rfl | rfl⟩ | ⟨rfl, rfl | rfl | rfl⟩ := h <;> rfl

theorem mbcOfHeader_eq_none {v : Byte} (h : v ∉ [0x00, 0x08, 0x09, 0x01, 0x02, 0x03]) : mbcOfHeader v = none := by
  simp only [List.mem_cons, List.not_mem_nil, or_false, not_or] at h
  simp only [mbcOfHeader, h, or_self, if_false]

/-- The loader's list of RAM sizes. -/
theorem ramSizeOfHeader_eq_some {v : Byte} {ramSize : RamSize}
    (h : (v = 0x00 ∧ ramSize = .none) ∨ (v = 0x01 ∧ ramSize = .kib2) ∨ (v = 0x02 ∧ ramSize = .kib8) ∨
      (v = 0x03 ∧ ramSize = .kib32)) : ramSizeOfHeader v = some ramSize := by
  obtain ⟨rfl, rfl⟩ | ⟨rfl, rfl⟩ | ⟨rfl, rfl⟩ | ⟨rfl, rfl⟩ := h <;> rfl

theorem ramSizeOfHeader_eq_none {v : Byte} (h : v ∉ [0x00, 0x01, 0x02, 0x03]) : ramSizeOfHeader v = none := by
  simp only [List.mem_cons, List.not_mem_nil, or_false, not_or] at h
  simp only [ramSizeOfHeader, h, if_false]

theorem launchImage_of_header (hmbc : mbcOfHeader (image.getD 0x0147 0) = some mbc)
    (hram : ramSizeOfHeader (image.getD 0x0149 0) = some ramSize) :
    launchImage image p d = launch image mbc ramSize p d := by
  unfold launchImage
  rw [hmbc, hram]

/-- A header byte outside its list refuses the launch (log entry 21). -/
theorem launchImage_of_header_none
    (h : mbcOfHeader (image.getD 0x0147 0) = none ∨ ramSizeOfHeader (image.getD 0x0149 0) = none) :
    launchImage image p d = .refused .cartridgeNotAdmitted := by
  unfold launchImage
  rcases h with h | h
  · rw [h]
  · rw [h]
    cases mbcOfHeader (image.getD 0x0147 0) <;> rfl

end Sys2Proof.Machine

namespace Sys2Proof.Proofs

open Sys2Proof.Machine

/-- Settles O14: `cartAdmitted` decides the admission, and the header's lists choose the launch's arguments. -/
theorem launchAdmission : Obligations.LaunchAdmission := by
  unfold Obligations.LaunchAdmission
  refine ⟨fun image mbc ramSize p d => ?_, fun image p d => ⟨fun mbc ramSize hmbc hram => ?_, fun h => ?_⟩⟩
  · simp only
    rw [← cartAdmitted_iff]
    refine ⟨fun h => ?_, launch_of_not_admitted⟩
    refine ⟨_, launch_of_admitted h, rfl, rfl, Nat.div_mul_cancel (bankSize_dvd_of_cartAdmitted h), fun i _ => ?_⟩
    have hget := Store.get_ofList image 0 i
    rwa [Nat.zero_add] at hget
  · exact launchImage_of_header (mbcOfHeader_eq_some hmbc) (ramSizeOfHeader_eq_some hram)
  · exact launchImage_of_header_none (h.imp mbcOfHeader_eq_none ramSizeOfHeader_eq_none)

end Sys2Proof.Proofs
end

section
/-! SUPPORT. The address map as intervals, and what the PPU's mode blocks (20 R60, R76): an access that is not blocked
is its region's own, P_CONTENTION is looked at for nothing but the block, and of all writes LCDC's alone changes what
is blocked. The joypad change is said here too, being one of those writes. -/

namespace Sys2Proof.Machine

variable (s : State) {a : Word} (v : Byte)

/-! ### The address map (20 R60) -/

/-- The first address of a region (20 R60). -/
def Region.first : Region → Nat
  | .romLo => 0x0000 | .romHi => 0x4000 | .vram => 0x8000 | .extRam => 0xA000 | .wram => 0xC000
  | .mirror => 0xE000 | .oam => 0xFE00 | .unusable => 0xFEA0 | .io => 0xFF00 | .hram => 0xFF80
  | .ie => 0xFFFF

/-- The address after a region's last (20 R60). -/
def Region.limit : Region → Nat
  | .romLo => 0x4000 | .romHi => 0x8000 | .vram => 0xA000 | .extRam => 0xC000 | .wram => 0xE000
  | .mirror => 0xFE00 | .oam => 0xFEA0 | .unusable => 0xFF00 | .io => 0xFF80 | .hram => 0xFFFF
  | .ie => 0x10000

/-- An address in the interval of a region is of that region. -/
theorem regionOf_of_interval (r : Region) (hfirst : r.first ≤ a.toNat) (hlimit : a.toNat < r.limit) :
    regionOf a = r := by
  unfold regionOf
  cases r <;> simp only [Region.first, Region.limit] at hfirst hlimit <;>
    simp (disch := omega) only [if_pos, if_neg]

/-- The regions whose accesses the PPU's mode may block (20 R76). -/
def Region.contended : Region → Bool
  | .vram | .oam | .unusable => true
  | _ => false

/-- When an access is blocked, by address and mode (20 R76). -/
theorem blocked_iff (s : State) (a : Word) :
    s.blocked a = true ↔ s.params.contention = true ∧ bitOf s.ppu.lcdc 7 = true ∧
      ((0x8000 ≤ a.toNat ∧ a.toNat < 0xA000 ∧ s.ppu.mode = .drawing) ∨
        (0xFE00 ≤ a.toNat ∧ a.toNat < 0xFF00 ∧ (s.ppu.mode = .oamScan ∨ s.ppu.mode = .drawing))) := by
  have hb := regionOf_bounds a
  unfold State.blocked Ppu.lcdOn
  cases h : regionOf a <;> rw [h] at hb <;> simp only at hb <;>
    simp only [Bool.and_eq_true, Bool.or_eq_true, decide_eq_true_iff, Bool.false_eq_true, and_false, false_iff] <;>
    grind

theorem blocked_eq_false (h : (regionOf a).contended = false) : s.blocked a = false := by
  unfold State.blocked
  cases hr : regionOf a <;> simp_all [Region.contended]

/-! ### The joypad change, by whether a line falls (20 R101; 60 R319) -/

section

variable {s : State} {j : Joypad}

theorem changePad_of_still (h : s.pad.low &&& ~~~j.low = 0) : s.changePad j = { s with pad := j } := by
  unfold State.changePad
  simp only
  rw [if_pos h]
  rfl

theorem changePad_of_fall (h : ¬s.pad.low &&& ~~~j.low = 0) :
    s.changePad j = { s with
      pad := j, irq := { s.irq with flags := s.irq.flags ||| 16 },
      cpu := { s.cpu with run := if s.cpu.run = .stopped then .running else s.cpu.run } } := by
  unfold State.changePad
  simp only
  rw [if_neg h]
  show (if s.cpu.run = .stopped then _ else _ : State) = _
  split_ifs <;> rfl

end

/-! ### Accesses that are blocked, and accesses that are not (20 R76) -/

theorem read8_of_blocked (h : s.blocked a = true) : s.read8 a = 0xFF := if_pos h

theorem write8_of_blocked (h : s.blocked a = true) : s.write8 a v = s := if_pos h

theorem read8_of_not_blocked (h : s.blocked a = false) : s.read8 a = s.readRaw a := by
  unfold State.read8
  rw [h]
  rfl

theorem write8_of_not_blocked (h : s.blocked a = false) : s.write8 a v = s.writeRaw a v := by
  unfold State.write8
  rw [h]
  rfl

/-- Outside the contended regions every access is the region's own. -/
theorem read8_of_region {r : Region} (hr : regionOf a = r) (h : r.contended = false) : s.read8 a = s.readRaw a :=
  read8_of_not_blocked s (blocked_eq_false s (hr ▸ h))

theorem write8_of_region {r : Region} (hr : regionOf a = r) (h : r.contended = false) :
    s.write8 a v = s.writeRaw a v :=
  write8_of_not_blocked s v (blocked_eq_false s (hr ▸ h))

/-- The state with P_CONTENTION false. -/
def State.uncontended (s : State) : State := { s with params := { s.params with contention := false } }

@[simp] theorem uncontended_read8 (a : Word) : s.uncontended.read8 a = s.readRaw a := rfl

theorem uncontended_requestIf (c : Bool) (k : Nat) :
    s.uncontended.requestIf c k = (s.requestIf c k).uncontended := by
  cases c <;> rfl

theorem uncontended_setPpuAndStat (p : Ppu) :
    s.uncontended.setPpuAndStat p = (s.setPpuAndStat p).uncontended :=
  uncontended_requestIf (s.setPpu p.updateStat.1) _ _

theorem uncontended_changePad (j : Joypad) : s.uncontended.changePad j = (s.changePad j).uncontended := by
  by_cases h : s.pad.low &&& ~~~j.low = 0
  · rw [changePad_of_still h]
    exact changePad_of_still h
  · rw [changePad_of_fall h]
    exact changePad_of_fall h

theorem uncontended_writeIo (r : IoReg) : s.uncontended.writeIo r v = (s.writeIo r v).uncontended := by
  cases r
  case p1 => exact uncontended_changePad s _
  case lcdc | stat | lyc => exact uncontended_setPpuAndStat s _
  all_goals rfl

/-- No write looks at P_CONTENTION but to be blocked. -/
theorem uncontended_writeRaw (a : Word) : s.uncontended.writeRaw a v = (s.writeRaw a v).uncontended := by
  cases h : regionOf a
  case io =>
    rw [writeRaw_io _ v h, writeRaw_io _ v h, uncontended_writeIo]
  all_goals simp only [State.writeRaw, h] <;> rfl

theorem uncontended_write8 (a : Word) : s.uncontended.write8 a v = (s.writeRaw a v).uncontended :=
  uncontended_writeRaw s v a

/-! ### What is blocked after a write (20 R76) -/

theorem setPpuAndStat_ppu (p : Ppu) : (s.setPpuAndStat p).ppu = p.updateStat.1 := by
  unfold State.setPpuAndStat
  rw [State.requestIf_ppu]
  rfl

/-- An I/O write leaves the LCD enable and the PPU's mode, but for LCDC's. -/
theorem writeIo_lcdc_mode {r : IoReg} (h : r ≠ .lcdc) :
    (s.writeIo r v).ppu.lcdc = s.ppu.lcdc ∧ (s.writeIo r v).ppu.mode = s.ppu.mode := by
  cases r
  case lcdc => exact absurd rfl h
  case p1 =>
    obtain ⟨run, flags, hpad, -⟩ := changePad_spec s { s.pad with selAct := bitOf v 5, selDir := bitOf v 4 }
    rw [State.writeIo, hpad]
    exact ⟨rfl, rfl⟩
  case stat | lyc =>
    rw [State.writeIo, setPpuAndStat_ppu]
    exact ⟨rfl, rfl⟩
  all_goals exact ⟨rfl, rfl⟩

/-- LCDC is at 0xFF40 alone (10 R34). -/
theorem ioRegAt_ne_lcdc (h : a ≠ 0xFF40) : ioRegAt (offsetFrom 0xFF00 a) ≠ .lcdc := by
  intro hreg
  have hoff := ioRegAt_offset (offsetFrom 0xFF00 a)
  rw [hreg] at hoff
  exact h (offsetFrom_inj (base := 0xFF00) hoff)

theorem writeRaw_lcdc_mode (h : a ≠ 0xFF40) :
    (s.writeRaw a v).ppu.lcdc = s.ppu.lcdc ∧ (s.writeRaw a v).ppu.mode = s.ppu.mode := by
  cases hr : regionOf a
  case io =>
    rw [writeRaw_io s v hr]
    exact writeIo_lcdc_mode s v (ioRegAt_ne_lcdc h)
  all_goals constructor <;> simp only [State.writeRaw, hr] <;> rfl

/-- No write but LCDC's changes what is blocked. -/
theorem write8_blocked (h : a ≠ 0xFF40) (b : Word) : (s.write8 a v).blocked b = s.blocked b := by
  cases hbl : s.blocked a
  case true => rw [write8_of_blocked s v hbl]
  case false =>
    obtain ⟨hlcdc, hmode⟩ := writeRaw_lcdc_mode s v h
    obtain ⟨hparams, -⟩ := write8_config s a v
    rw [write8_of_not_blocked s v hbl] at hparams ⊢
    unfold State.blocked Ppu.lcdOn
    rw [hparams, hlcdc, hmode]

/-- The addresses beside LCDC are I/O registers, which nothing blocks. -/
theorem blocked_beside_lcdc {b : Word} (h : b = 0xFF40 + 1 ∨ b = 0xFF40 - 1) : s.blocked b = false := by
  apply blocked_eq_false
  rcases h with rfl | rfl <;> decide

/-! ### The mirror (20 R69) -/

theorem offsetFrom_sub_mirror (a : Word) : offsetFrom 0xC000 (a - 0x2000) = offsetFrom 0xE000 a := by
  unfold offsetFrom
  congr 1
  bv_omega

section

variable (hfirst : 0xE000 ≤ a.toNat) (hlimit : a.toNat < 0xFE00)

include hfirst hlimit

theorem regionOf_mirror : regionOf a = .mirror := regionOf_of_interval .mirror hfirst hlimit

theorem regionOf_sub_mirror : regionOf (a - 0x2000) = .wram := by
  have hsub : (a - 0x2000).toNat = a.toNat - 0x2000 := offsetFrom_eq (base := 0x2000) rfl (by omega)
  apply regionOf_of_interval .wram <;> simp only [hsub, Region.first, Region.limit] <;> omega

theorem read8_mirror : s.read8 a = s.read8 (a - 0x2000) := by
  have hm := regionOf_mirror hfirst hlimit
  have hw := regionOf_sub_mirror hfirst hlimit
  rw [read8_of_region s hm rfl, read8_of_region s hw rfl, readRaw_mirror s hm,
    readRaw_wram s hw, offsetFrom_sub_mirror]

theorem write8_mirror : s.write8 a v = s.write8 (a - 0x2000) v := by
  have hm := regionOf_mirror hfirst hlimit
  have hw := regionOf_sub_mirror hfirst hlimit
  rw [write8_of_region s v hm rfl, write8_of_region s v hw rfl, writeRaw_mirror s v hm,
    writeRaw_wram s v hw, offsetFrom_sub_mirror]

end

end Sys2Proof.Machine

namespace Sys2Proof.Proofs

open Sys2Proof.Machine

/-- Settles O20: `blocked_iff` gives the blocked accesses; no other access looks at P_CONTENTION, and LCDC and the
mode, on which blocking rests, are changed by a write to LCDC alone. -/
theorem contentionBlocks : Obligations.ContentionBlocks := by
  unfold Obligations.ContentionBlocks
  intro s a v
  simp only
  rw [← blocked_iff]
  refine ⟨fun hb => ⟨read8_of_blocked s hb, write8_of_blocked s v hb⟩, fun hb => ?_, fun b hab => ?_,
    fun hfirst hlimit => ⟨read8_mirror s hfirst hlimit, write8_mirror s v hfirst hlimit⟩⟩
  · have hfree := Bool.eq_false_iff.mpr hb
    refine ⟨read8_of_not_blocked s hfree, ?_⟩
    obtain ⟨hparams, -⟩ := write8_config s a v
    refine Eq.trans ?_ (uncontended_write8 s v a).symm
    rw [← write8_of_not_blocked s v hfree, State.uncontended, hparams]
  · by_cases ha : a = 0xFF40
    · subst ha
      have hbeside := hab.resolve_left (fun h => h rfl)
      rw [blocked_beside_lcdc _ hbeside, blocked_beside_lcdc _ hbeside]
    · exact write8_blocked s v ha b

end Sys2Proof.Proofs
end

section
/-! SUPPORT. The cartridge behind the bus (20 R63-R67, R90-R95): its banks and external RAM under each controller, what
its addresses read and write, and MBC1's registers. -/

namespace Sys2Proof.Machine

section

variable {c : Cart}

theorem romBankLo_noMbc (h : c.mbc = .noMbc) : c.romBankLo = 0 := by
  unfold Cart.romBankLo
  rw [h]

theorem romBankLo_mbc1 (h : c.mbc = .mbc1) :
    c.romBankLo = (if c.mode then c.bank2.toNat * 32 else 0) % c.romBanks := by
  unfold Cart.romBankLo
  rw [h]

theorem romBankHi_noMbc (h : c.mbc = .noMbc) : c.romBankHi = 1 := by
  unfold Cart.romBankHi
  rw [h]

theorem romBankHi_mbc1 (h : c.mbc = .mbc1) :
    c.romBankHi = (c.bank2.toNat * 32 + c.bank1.toNat) % c.romBanks := by
  unfold Cart.romBankHi
  rw [h]

theorem ramOffset_noMbc (h : c.mbc = .noMbc) (off : Nat) : c.ramOffset off = off % c.ramSize.bytes := by
  unfold Cart.ramOffset
  rw [h]

theorem ramOffset_mbc1 (h : c.mbc = .mbc1) (off : Nat) :
    c.ramOffset off = ((if c.mode then c.bank2.toNat else 0) * 0x2000 + off) % c.ramSize.bytes := by
  unfold Cart.ramOffset
  rw [h]

/-- External RAM is present where its size is not 0. -/
theorem ramSize_bne_none (r : RamSize) : (r != .none) = decide (0 < r.bytes) := by
  cases r <;> rfl

theorem ramOpen_noMbc (h : c.mbc = .noMbc) : c.ramOpen = true ↔ 0 < c.ramSize.bytes := by
  unfold Cart.ramOpen
  rw [h, ramSize_bne_none, decide_eq_true_iff]

theorem ramOpen_mbc1 (h : c.mbc = .mbc1) : c.ramOpen = true ↔ c.ramEnable = true ∧ 0 < c.ramSize.bytes := by
  unfold Cart.ramOpen
  rw [h, ramSize_bne_none, Bool.and_eq_true, decide_eq_true_iff]

/-- `(bank2 << 5) | bank1` as a number (20 R94). -/
theorem bank2_append_bank1 (b2 : BitVec 2) (b1 : BitVec 5) : (b2 ++ b1).toNat = b2.toNat * 32 + b1.toNat := by
  rw [BitVec.toNat_append, ← Nat.shiftLeft_add_eq_or_of_lt b1.isLt, Nat.shiftLeft_eq]

end

variable (s : State) {a : Word} (v : Byte)

theorem read8_romLo (h : a.toNat < 0x4000) :
    s.read8 a = Store.get s.cart.rom (s.cart.romBankLo * 0x4000 + a.toNat) := by
  have hr : regionOf a = .romLo := regionOf_of_interval .romLo (Nat.zero_le _) h
  rw [read8_of_region s hr rfl, readRaw_romLo s hr]

theorem read8_romHi (hfirst : 0x4000 ≤ a.toNat) (hlimit : a.toNat < 0x8000) :
    s.read8 a = Store.get s.cart.rom (s.cart.romBankHi * 0x4000 + offsetFrom 0x4000 a) := by
  have hr : regionOf a = .romHi := regionOf_of_interval .romHi hfirst hlimit
  rw [read8_of_region s hr rfl, readRaw_romHi s hr]

/-- A write to either ROM window is the controller's (20 R65). -/
theorem write8_rom (h : a.toNat < 0x8000) : s.write8 a v = s.setCart (s.cart.bankingWrite a.toNat v) := by
  by_cases hlo : a.toNat < 0x4000
  · have hr : regionOf a = .romLo := regionOf_of_interval .romLo (Nat.zero_le _) hlo
    rw [write8_of_region s v hr rfl, writeRaw_romLo s v hr]
  · have hr : regionOf a = .romHi := regionOf_of_interval .romHi (Nat.le_of_not_lt hlo) h
    rw [write8_of_region s v hr rfl, writeRaw_romHi s v hr]

section

variable (hfirst : 0xA000 ≤ a.toNat) (hlimit : a.toNat < 0xC000)

include hfirst hlimit

theorem read8_extRam : s.read8 a = s.cart.readRam (offsetFrom 0xA000 a) := by
  have hr : regionOf a = .extRam := regionOf_of_interval .extRam hfirst hlimit
  rw [read8_of_region s hr rfl, readRaw_extRam s hr]

theorem write8_extRam : s.write8 a v = s.setCart (s.cart.writeRam (offsetFrom 0xA000 a) v) := by
  have hr : regionOf a = .extRam := regionOf_of_interval .extRam hfirst hlimit
  rw [write8_of_region s v hr rfl, writeRaw_extRam s v hr]

theorem extRam_open (h : s.cart.ramOpen = true) :
    s.read8 a = Store.get s.cart.ram (s.cart.ramOffset (offsetFrom 0xA000 a)) ∧
      s.write8 a v = { s with cart := { s.cart with
        ram := Store.set s.cart.ram (s.cart.ramOffset (offsetFrom 0xA000 a)) v } } := by
  rw [read8_extRam s hfirst hlimit, write8_extRam s v hfirst hlimit, Cart.readRam, Cart.writeRam, if_pos h, if_pos h]
  exact ⟨rfl, rfl⟩

theorem extRam_closed (h : ¬s.cart.ramOpen = true) : s.read8 a = 0xFF ∧ s.write8 a v = s := by
  rw [read8_extRam s hfirst hlimit, write8_extRam s v hfirst hlimit, Cart.readRam, Cart.writeRam, if_neg h, if_neg h]
  exact ⟨rfl, rfl⟩

end

theorem bankingWrite_noMbc {c : Cart} (h : c.mbc = .noMbc) (n : Nat) : c.bankingWrite n v = c := by
  unfold Cart.bankingWrite
  rw [h]

section

variable {c : Cart} (hmbc : c.mbc = .mbc1) {n : Nat}

include hmbc

theorem bankingWrite_ramEnable (hlimit : n < 0x2000) :
    c.bankingWrite n v = { c with ramEnable := decide (v &&& 0x0F = 0x0A) } := by
  unfold Cart.bankingWrite
  rw [hmbc]
  exact if_pos hlimit

theorem bankingWrite_bank1 (hfirst : 0x2000 ≤ n) (hlimit : n < 0x4000) :
    c.bankingWrite n v = { c with bank1 := bank1Of v } := by
  unfold Cart.bankingWrite
  rw [hmbc]
  simp only
  rw [if_neg (by omega), if_pos hlimit]

theorem bankingWrite_bank2 (hfirst : 0x4000 ≤ n) (hlimit : n < 0x6000) :
    c.bankingWrite n v = { c with bank2 := v.setWidth 2 } := by
  unfold Cart.bankingWrite
  rw [hmbc]
  simp only
  rw [if_neg (by omega), if_neg (by omega), if_pos hlimit]

theorem bankingWrite_mode (hfirst : 0x6000 ≤ n) : c.bankingWrite n v = { c with mode := bitOf v 0 } := by
  unfold Cart.bankingWrite
  rw [hmbc]
  simp only
  rw [if_neg (by omega), if_neg (by omega), if_neg (by omega)]

/-- The remap of `bank1` tests its five bits alone: in a ROM of 32 banks or more they are those of the bank seen at
0x4000 (20 R92, R94). -/
theorem romBankHi_mod_32 (hbanks : 32 ∣ c.romBanks) : c.romBankHi % 32 = c.bank1.toNat := by
  rw [romBankHi_mbc1 hmbc, Nat.mod_mod_of_dvd _ hbanks, Nat.mul_add_mod_self_right, Nat.mod_eq_of_lt c.bank1.isLt]

end

/-- RAM is enabled by a low nibble of 0xA (20 R92). -/
theorem and_0F_eq_0A (v : Byte) : v &&& 0x0F = 0x0A ↔ v.toNat % 16 = 10 := by
  rw [← BitVec.toNat_inj, BitVec.toNat_and]
  exact Eq.congr_left (Nat.and_two_pow_sub_one_eq_mod v.toNat 4)

theorem bank1Of_toNat (v : Byte) : (bank1Of v).toNat = if v.toNat % 32 = 0 then 1 else v.toNat % 32 := by
  have hwidth : (v.setWidth 5).toNat = v.toNat % 32 := BitVec.toNat_setWidth 5 v
  have hzero : v.setWidth 5 = 0 ↔ v.toNat % 32 = 0 := by rw [← BitVec.toNat_inj, hwidth]; rfl
  unfold bank1Of
  simp only [hzero]
  split_ifs
  · rfl
  · exact hwidth

end Sys2Proof.Machine

namespace Sys2Proof.Proofs

open Sys2Proof.Machine

/-- Settles O21: each range of the cartridge's addresses by its law, for each of the two controllers. -/
theorem cartridgeBanking : Obligations.CartridgeBanking := by
  unfold Obligations.CartridgeBanking
  intro s a v c low high enabled cell
  have henabled : enabled ↔ c.ramOpen = true := by
    simp only [enabled]
    cases hmbc : c.mbc
    · exact (ramOpen_noMbc hmbc).symm
    · exact (ramOpen_mbc1 hmbc).symm
  have hcell : cell = c.ramOffset (offsetFrom 0xA000 a) := by
    simp only [cell]
    cases hmbc : c.mbc
    · exact (ramOffset_noMbc hmbc _).symm
    · exact (ramOffset_mbc1 hmbc _).symm
  rw [henabled, hcell]
  refine ⟨fun hlo => ?_, fun hfirst hlimit => ?_, fun hrom hmbc => ?_,
    fun hfirst hlimit => ⟨extRam_open s v hfirst hlimit, extRam_closed s v hfirst hlimit⟩, fun hbanks => ?_⟩
  · rw [read8_romLo s hlo]
    cases hmbc : c.mbc
    · rw [romBankLo_noMbc hmbc, Nat.zero_mul, Nat.zero_add]
    · rw [romBankLo_mbc1 hmbc, ← Nat.shiftLeft_eq _ 5]
  · rw [read8_romHi s hfirst hlimit]
    cases hmbc : c.mbc
    · have hoff : 1 * 0x4000 + offsetFrom 0x4000 a = a.toNat := by
        rw [offsetFrom_eq (n := 0x4000) rfl hfirst]
        omega
      rw [romBankHi_noMbc hmbc, hoff]
    · rw [romBankHi_mbc1 hmbc, ← bank2_append_bank1]
      rfl
  · rw [write8_rom s v hrom, bankingWrite_noMbc v hmbc]
    rfl
  · simp only [low]
    split_ifs
    · rw [Nat.shiftLeft_eq]
      exact Nat.mod_eq_zero_of_dvd (hbanks.mul_left _)
    · exact Nat.zero_mod _

/-- Settles O22: a write is the controller's, which sets the register of its quarter of the ROM addresses. -/
theorem mbc1Registers : Obligations.Mbc1Registers := by
  unfold Obligations.Mbc1Registers
  intro s a v hmbc
  refine ⟨fun hlimit => ?_, fun hfirst hlimit => ⟨bank1Of v, ?_, bank1Of_toNat v⟩,
    fun hfirst hlimit => ⟨v.setWidth 2, ?_, BitVec.toNat_setWidth 2 v⟩, fun hfirst hlimit => ?_,
    fun hbank1 hbanks => ?_⟩
  · rw [write8_rom s v (by omega), bankingWrite_ramEnable v hmbc hlimit]
    simp only [and_0F_eq_0A]
    rfl
  · rw [write8_rom s v (by omega), bankingWrite_bank1 v hmbc hfirst hlimit]
    rfl
  · rw [write8_rom s v (by omega), bankingWrite_bank2 v hmbc hfirst hlimit]
    rfl
  · rw [write8_rom s v (by omega), bankingWrite_mode v hmbc hfirst]
    rfl
  · rw [romBankHi_mod_32 hmbc hbanks]
    exact fun h => hbank1 (BitVec.eq_of_toNat_eq h)

end Sys2Proof.Proofs
end

section
/-! SUPPORT. OAM DMA (20 R80): the copy at once is the canonical memory of the page's bytes, and so is what copying
them one after the other leaves, since a byte of the source page that lies in OAM is the one it is copied to. -/

namespace Sys2Proof.Machine

/-! ### A canonical memory is the table of what it holds -/

theorem Store.get_of_wfFrom_below {w lo n a : Nat} {m : Store w} (hm : Store.wfFrom lo n m = true) (ha : a < lo) :
    Store.get m a = 0 := by
  induction m generalizing lo with
  | nil => rfl
  | cons c m ih =>
    obtain ⟨k, x⟩ := c
    obtain ⟨hlo, -, -, hrest⟩ := Store.wfFrom_cons.mp hm
    rw [Store.get, if_neg (by omega)]
    exact ih hrest (by omega)

/-- A canonical memory lists its first key or starts after it. -/
theorem Store.wfFrom_cases {w lo n : Nat} {m : Store w} (hm : Store.wfFrom lo n m = true) :
    Store.wfFrom (lo + 1) n m = true ∨
      ∃ x rest, m = (lo, x) :: rest ∧ x ≠ 0 ∧ Store.wfFrom (lo + 1) n rest = true := by
  cases m with
  | nil => exact .inl rfl
  | cons c m =>
    obtain ⟨k, x⟩ := c
    obtain ⟨hlo, hn, hx, hrest⟩ := Store.wfFrom_cons.mp hm
    rcases Nat.eq_or_lt_of_le hlo with rfl | hlt
    · exact .inr ⟨x, m, rfl, hx, hrest⟩
    · exact .inl (Store.wfFrom_cons.mpr ⟨hlt, hn, hx, hrest⟩)

theorem Store.eq_tabulateFrom {w lo n : Nat} {m : Store w} {f : Nat → BitVec w}
    (hm : Store.wfFrom lo (lo + n) m = true) (h : ∀ i, lo ≤ i → i < lo + n → Store.get m i = f i) :
    m = Store.tabulateFrom f lo n := by
  induction n generalizing lo m with
  | zero =>
    cases m with
    | nil => rfl
    | cons c m =>
      obtain ⟨hlo, hn, -⟩ := Store.wfFrom_cons.mp hm
      omega
  | succ n ih =>
    have hend : lo + (n + 1) = lo + 1 + n := by omega
    rw [hend] at hm h
    have hfirst := h lo (le_refl lo) (by omega)
    unfold Store.tabulateFrom
    rcases Store.wfFrom_cases hm with hm' | ⟨x, rest, rfl, hx, hrest⟩
    · rw [Store.get_of_wfFrom_below hm' (Nat.lt_succ_self lo)] at hfirst
      exact (ih hm' fun i hi => h i (by omega)).trans (if_pos hfirst.symm).symm
    · rw [Store.get, if_pos rfl] at hfirst
      refine Eq.trans ?_ (if_neg (hfirst ▸ hx)).symm
      rw [← hfirst]
      refine congrArg _ (ih hrest fun i hi hi' => ?_)
      rw [← h i (by omega) hi', Store.get, if_neg (by omega)]

/-! ### The page a DMA copies -/

/-- The address of byte i of page v. -/
def dmaSource (v : Byte) (i : Nat) : Word := v.setWidth 16 <<< 8 + BitVec.ofNat 16 i

theorem pair_zero (v : Byte) : pair v 0 = v.setWidth 16 <<< 8 := by
  have hv := v.isLt
  apply BitVec.eq_of_toNat_eq
  rw [pair, BitVec.toNat_append, BitVec.toNat_shiftLeft, BitVec.toNat_setWidth, Nat.shiftLeft_eq, Nat.shiftLeft_eq]
  show v.toNat * 256 ||| 0 = _
  rw [Nat.or_zero]
  omega

theorem dmaSource_toNat (v : Byte) {i : Nat} (hi : i < 160) : (dmaSource v i).toNat = v.toNat * 256 + i := by
  have hv := v.isLt
  unfold dmaSource
  rw [BitVec.toNat_add, BitVec.toNat_shiftLeft, BitVec.toNat_setWidth, BitVec.toNat_ofNat, Nat.shiftLeft_eq]
  omega

/-- A byte of the source page that lies in OAM is the one it is copied to. -/
theorem dmaSource_oam {v : Byte} {i : Nat} (hi : i < 160) (h : regionOf (dmaSource v i) = .oam) :
    offsetFrom 0xFE00 (dmaSource v i) = i := by
  have hb := regionOf_bounds (dmaSource v i)
  rw [h] at hb
  obtain ⟨hfirst, hlimit⟩ := hb
  rw [offsetFrom_eq (n := 0xFE00) rfl hfirst]
  rw [dmaSource_toNat v hi] at hfirst hlimit ⊢
  omega

/-- A state with OAM replaced. -/
def State.withOam (s : State) (oam : Memory) : State := { s with mem := { s.mem with oam := oam } }

theorem readRaw_withOam {s : State} {a : Word} (oam : Memory) (h : regionOf a ≠ .oam) :
    (s.withOam oam).readRaw a = s.readRaw a := by
  cases hr : regionOf a
  case oam => exact absurd hr h
  case io =>
    rw [readRaw_io _ hr, readRaw_io _ hr]
    cases ioRegAt (offsetFrom 0xFF00 a) <;> rfl
  all_goals simp only [State.readRaw, hr] <;> rfl

/-- Bytes of OAM before the i-th do not show in the i-th byte of the source page. -/
theorem readRaw_withOam_dmaSource {s : State} {v : Byte} {i : Nat} {oam : Memory} (hi : i < 160)
    (hkept : Store.get oam i = Store.get s.mem.oam i) :
    (s.withOam oam).readRaw (dmaSource v i) = s.readRaw (dmaSource v i) := by
  by_cases hr : regionOf (dmaSource v i) = .oam
  · rw [readRaw_oam _ hr, readRaw_oam _ hr, dmaSource_oam hi hr]
    exact hkept
  · exact readRaw_withOam oam hr

/-! ### The copy at once and the copy one byte after the other -/

theorem write8_dma (s : State) (v : Byte) : s.write8 0xFF46 v = s.oamDma v := by
  have hr : regionOf 0xFF46 = .io := by decide
  rw [write8_of_region s v hr rfl, writeRaw_io s v hr]
  rfl

/-- OAM after a DMA from page v. -/
def State.dmaCopy (s : State) (v : Byte) : Memory :=
  Store.tabulateFrom (fun i => s.readRaw (dmaSource v i)) 0 160

theorem dmaCopy_get (s : State) (v : Byte) {i : Nat} (hi : i < 160) :
    Store.get (s.dmaCopy v) i = s.readRaw (dmaSource v i) := by
  rw [State.dmaCopy, Store.get_tabulateFrom _ 0 160 i (Nat.zero_le i) (by omega)]

/-- A state with v in the DMA register. -/
def State.withDma (s : State) (v : Byte) : State := { s with mem := { s.mem with dma := v } }

theorem oamDma_eq (s : State) (v : Byte) :
    s.oamDma v = ((s.withDma v).withOam ((s.withDma v).dmaCopy v)).charge s.params.dmaCycles := by
  unfold State.oamDma
  rw [pair_zero]
  rfl

/-- One byte of the copy, read through the bus. -/
def State.copyByte (v : Byte) (w : State) (i : Nat) : State :=
  w.withOam (Store.set w.mem.oam i (w.read8 (dmaSource v i)))

/-- After n bytes, read without contention: OAM is canonical, its first n bytes are the page's, and the others are as
before. -/
theorem foldl_copyByte (s : State) (v : Byte) (hwf : Memory.wf 160 s.mem.oam = true) {n : Nat} (hn : n ≤ 160) :
    ∃ oam, (List.range n).foldl (State.copyByte v) s.uncontended = s.uncontended.withOam oam ∧
      Memory.wf 160 oam = true ∧ (∀ i < n, Store.get oam i = s.readRaw (dmaSource v i)) ∧
      ∀ i, n ≤ i → Store.get oam i = Store.get s.mem.oam i := by
  induction n with
  | zero => exact ⟨s.mem.oam, rfl, hwf, fun i hi => absurd hi (Nat.not_lt_zero i), fun i _ => rfl⟩
  | succ n ih =>
    obtain ⟨oam, hfold, hcanonical, hcopied, hkept⟩ := ih (by omega)
    refine ⟨Store.set oam n (s.readRaw (dmaSource v n)), ?_, Store.wf_set _ (by omega) hcanonical,
      fun i hi => ?_, fun i hi => ?_⟩
    · have hread : (s.uncontended.withOam oam).read8 (dmaSource v n) = s.readRaw (dmaSource v n) :=
        readRaw_withOam_dmaSource (by omega) (hkept n (le_refl n))
      rw [List.range_succ, List.foldl_append, hfold]
      show (s.uncontended.withOam oam).copyByte v n = _
      rw [State.copyByte, hread]
      rfl
    · rcases Nat.lt_succ_iff_lt_or_eq.mp hi with hlt | rfl
      · rw [Store.get_set_other _ _ (by omega)]
        exact hcopied i hlt
      · exact Store.get_set_same _ _ _
    · rw [Store.get_set_other _ _ (by omega)]
      exact hkept i (by omega)

/-- Copying one byte after the other leaves the OAM of the copy at once (log entry 12). -/
theorem foldl_copyByte_oam (s : State) (v : Byte) (hwf : Memory.wf 160 s.mem.oam = true) :
    ((List.range 160).foldl (State.copyByte v) s.uncontended).mem.oam = s.dmaCopy v := by
  obtain ⟨oam, hfold, hcanonical, hcopied, -⟩ := foldl_copyByte s v hwf (le_refl 160)
  rw [hfold]
  refine Store.eq_tabulateFrom hcanonical fun i _ hi => hcopied i ?_
  omega

end Sys2Proof.Machine

namespace Sys2Proof.Proofs

open Sys2Proof.Machine

/-- Settles O23: the write is the DMA, whose OAM is the table of the page's bytes, and `foldl_copyByte_oam`. -/
theorem dmaCopiesAPage : Obligations.DmaCopiesAPage := by
  unfold Obligations.DmaCopiesAPage
  intro s v u free source t
  have ht : t = ((s.withDma v).withOam ((s.withDma v).dmaCopy v)).charge s.params.dmaCycles :=
    (write8_dma s v).trans (oamDma_eq s v)
  have hoam : t.mem.oam = (s.withDma v).dmaCopy v := by rw [ht]; rfl
  refine ⟨⟨(s.withDma v).dmaCopy v, ht⟩, fun i hi => ?_, fun hwf => ?_⟩
  · rw [hoam]
    exact dmaCopy_get _ v hi
  · rw [hoam, ← foldl_copyByte_oam (s.withDma v) v hwf]
    generalize List.range 160 = bytes
    rfl

end Sys2Proof.Proofs
end

section
/-! SUPPORT. P1's lines (10 R35) and what their fall does (20 R100, R101; 60 R319). -/

namespace Sys2Proof.Machine

/-! ### The bits of P1 (10 R35) -/

theorem getLsbD_0F (i : Nat) : (0x0F : Byte).getLsbD i = decide (i < 4) := by
  by_cases hi : i < 8
  · interval_cases i <;> rfl
  · rw [BitVec.getLsbD_of_ge _ _ (by omega), decide_eq_false (by omega)]

/-- A line of a selected group is low when its button is pressed. -/
theorem bitOf_low (j : Joypad) {i : Nat} (hi : i < 4) :
    bitOf j.low i = !((!j.selDir && bitOf j.buttons i) || (!j.selAct && bitOf j.buttons (i + 4))) := by
  have hwidth : i < 8 := by omega
  have hmask : (15#8).getLsbD i = true := (getLsbD_0F i).trans (decide_eq_true hi)
  unfold Joypad.low bitOf
  cases j.selDir <;> cases j.selAct <;>
    simp [-BitVec.getLsbD_eq_getElem, hmask, hwidth, Nat.add_comm 4 i]

theorem bitOf_low_of_le (j : Joypad) {i : Nat} (hi : 4 ≤ i) : bitOf j.low i = false := by
  unfold Joypad.low bitOf
  rw [BitVec.getLsbD_and, getLsbD_0F, decide_eq_false (by omega), Bool.and_false]

theorem bitOf_readP1_low (j : Joypad) {i : Nat} (hi : i < 4) : bitOf j.readP1 i = bitOf j.low i := by
  unfold Joypad.readP1 bitOf bitAt
  cases j.selDir <;> cases j.selAct <;> interval_cases i <;> simp

/-- P1's bits above the lines: the two selections, and two that read 1. -/
theorem bitOf_readP1_high (j : Joypad) :
    bitOf j.readP1 4 = j.selDir ∧ bitOf j.readP1 5 = j.selAct ∧ bitOf j.readP1 6 = true ∧
      bitOf j.readP1 7 = true := by
  have hlow : ∀ i, 4 ≤ i → j.low.getLsbD i = false := fun i => bitOf_low_of_le j
  unfold Joypad.readP1 bitOf bitAt
  simp only [BitVec.getLsbD_or, hlow, Nat.reduceLeDiff, Bool.or_false]
  cases j.selDir <;> cases j.selAct <;> decide

/-- `changePad`'s test, line by line: some line of P1 goes from 1 to 0. -/
theorem low_falls_iff (old new : Joypad) :
    ¬old.low &&& ~~~new.low = 0 ↔ ∃ i < 4, bitOf old.readP1 i = true ∧ bitOf new.readP1 i = false := by
  have hbit : ∀ i < 8, (old.low &&& ~~~new.low).getLsbD i = (bitOf old.low i && !bitOf new.low i) := by
    intro i hi
    rw [BitVec.getLsbD_and, BitVec.getLsbD_not, decide_eq_true hi, Bool.true_and]
    rfl
  have hzeros : ∀ i, (0 : Byte).getLsbD i = false := fun i => BitVec.getLsbD_zero
  constructor
  · intro h
    by_contra hnone
    refine h (BitVec.eq_of_getLsbD_eq fun i hi => ?_)
    rw [hbit i hi, hzeros]
    by_cases hlt : i < 4
    · have hstays : ¬(bitOf old.low i = true ∧ bitOf new.low i = false) := fun hfall =>
        hnone ⟨i, hlt, by rwa [bitOf_readP1_low _ hlt, bitOf_readP1_low _ hlt]⟩
      simpa using hstays
    · rw [bitOf_low_of_le old (by omega), Bool.false_and]
  · rintro ⟨i, hi, hone, hzero⟩ h
    have hb := hbit i (by omega)
    rw [bitOf_readP1_low _ hi] at hone hzero
    rw [h, hone, hzero, hzeros] at hb
    exact absurd hb (by decide)

/-! ### A sample, and a write to P1 -/

theorem read8_p1 (s : State) : s.read8 0xFF00 = s.pad.readP1 := by
  have hr : regionOf 0xFF00 = .io := by decide
  rw [read8_of_region s hr rfl, readRaw_io s hr]
  rfl

theorem write8_p1 (s : State) (v : Byte) :
    s.write8 0xFF00 v = s.changePad { s.pad with selAct := bitOf v 5, selDir := bitOf v 4 } := by
  have hr : regionOf 0xFF00 = .io := by decide
  rw [write8_of_region s v hr rfl, writeRaw_io s v hr]
  rfl

theorem changePad_pad (s : State) (j : Joypad) : (s.changePad j).pad = j := by
  obtain ⟨run, flags, h, -⟩ := changePad_spec s j
  rw [h]

/-- A line of P1 reads 1 in the first state and 0 in the second. -/
def LineFalls (s t : State) : Prop :=
  ∃ i < 4, bitOf (s.read8 0xFF00) i = true ∧ bitOf (t.read8 0xFF00) i = false

theorem lineFalls_changePad (s : State) (j : Joypad) :
    LineFalls s (s.changePad j) ↔ ¬s.pad.low &&& ~~~j.low = 0 := by
  rw [LineFalls, read8_p1, read8_p1, changePad_pad, low_falls_iff]

/-- Where no line falls the run state is kept. -/
theorem changePad_run_of_still {s : State} {j : Joypad} (h : ¬LineFalls s (s.changePad j)) :
    (s.changePad j).cpu.run = s.cpu.run := by
  rw [lineFalls_changePad, not_not] at h
  rw [changePad_of_still h]

/-- The joypad changed with nothing else but what a falling line does. -/
theorem changePad_effect (s : State) (j : Joypad) :
    let t := s.changePad j
    (LineFalls s t → t = { s with
      pad := t.pad, irq := { s.irq with flags := s.irq.flags ||| 16 },
      cpu := { s.cpu with run := if s.cpu.run = .stopped then .running else s.cpu.run } }) ∧
    (¬LineFalls s t → t = { s with pad := t.pad }) := by
  intro t
  rw [lineFalls_changePad, not_not]
  simp only [t, changePad_pad]
  exact ⟨changePad_of_fall, changePad_of_still⟩

/-! ### Stopped (60 R319) -/

theorem step_of_stopped {s : State} (h : s.cpu.run = .stopped) : step s = .next (s.setCost 0) :=
  step_next_iff.mpr ⟨s.setCost 0, cpuStep_next_iff.mpr (.inl ⟨.inl h, rfl⟩), rfl⟩

/-- Of the host's actions a sample alone, by a falling line, takes the CPU out of Stopped. -/
theorem hostAct_leaves_stopped {x : HostAction} {s t : State} (hs : s.cpu.run = .stopped)
    (h : hostAct x s = .next t) (ht : t.cpu.run ≠ .stopped) :
    ∃ v, x = .joypad v ∧ t = s.pushJoypad v ∧ LineFalls s t := by
  cases x with
  | systemStep =>
    have hstep : step s = .next t := h
    rw [step_of_stopped hs] at hstep
    cases hstep
    exact absurd hs ht
  | joypad v =>
    cases h
    refine ⟨v, rfl, rfl, ?_⟩
    by_contra hstill
    exact ht ((changePad_run_of_still hstill).trans hs)
  | writeRam bytes =>
    cases h
    exact absurd hs ht

end Sys2Proof.Machine

namespace Sys2Proof.Proofs

open Sys2Proof.Machine

/-- Settles O25: a sample and a write to P1 are one joypad change, whose effect turns on whether a line falls. -/
theorem joypadLinesAndStop : Obligations.JoypadLinesAndStop := by
  unfold Obligations.JoypadLinesAndStop
  refine ⟨fun s v => ?_, fun s => step_of_stopped, fun x s t => hostAct_leaves_stopped⟩
  obtain ⟨hselDir, hselAct, hbit6, hbit7⟩ := bitOf_readP1_high s.pad
  have hlines : ∀ i < 4, bitOf (s.read8 0xFF00) i =
      !((!s.pad.selDir && bitOf s.pad.buttons i) || (!s.pad.selAct && bitOf s.pad.buttons (i + 4))) := by
    intro i hi
    rw [read8_p1, bitOf_readP1_low _ hi, bitOf_low _ hi]
  refine ⟨hlines, ?_⟩
  rw [write8_p1, read8_p1]
  refine ⟨hselDir, hselAct, hbit6, hbit7, changePad_pad s _, changePad_pad s _, fun t ht => ?_⟩
  obtain ⟨j, rfl⟩ : ∃ j, t = s.changePad j := by
    rcases ht with rfl | rfl <;> exact ⟨_, rfl⟩
  rw [← read8_p1]
  exact changePad_effect s j

end Sys2Proof.Proofs
end

section
/-! SUPPORT. The decoder against the encoder (30 R121, R128-R137): the bytes an opcode takes are the encoding of
the instruction read. The opcode map is followed by its fields x, y, z, row by row. -/

namespace Sys2Proof.Machine

/-! ### The length from byte 0 (30 R136) -/

theorem lengthOfOpcode_range (op : Byte) :
    lengthOfOpcode op = 1 ∨ lengthOfOpcode op = 2 ∨ lengthOfOpcode op = 3 := by
  unfold lengthOfOpcode
  split
  · exact .inr (.inl rfl)
  · split
    · exact .inr (.inr rfl)
    · exact .inl rfl

theorem lengthOfOpcode_eq_two_iff (op : Byte) : lengthOfOpcode op = 2 ↔
    op ∈ [0xCB, 0x10, 0x06, 0x0E, 0x16, 0x18, 0x1E, 0x20, 0x26, 0x28, 0x2E, 0x30, 0x36, 0x38, 0x3E,
      0xC6, 0xCE, 0xD6, 0xDE, 0xE0, 0xE6, 0xE8, 0xEE, 0xF0, 0xF6, 0xF8, 0xFE] := by
  rw [← List.contains_iff_mem]
  unfold lengthOfOpcode
  split
  next hmem => exact iff_of_true rfl hmem
  next hmem => split <;> exact iff_of_false (by decide) hmem

/-- The list of length 3 is looked at second, so it counts that the two lists share no byte. -/
theorem lengthOfOpcode_eq_three_iff (op : Byte) : lengthOfOpcode op = 3 ↔
    op ∈ [0x01, 0x08, 0x11, 0x21, 0x31, 0xC2, 0xC3, 0xC4, 0xCA, 0xCC, 0xCD, 0xD2, 0xD4, 0xDA, 0xDC,
      0xEA, 0xFA] := by
  constructor
  · intro h
    unfold lengthOfOpcode at h
    split at h
    · cases h
    · split at h
      next hmem => exact List.contains_iff_mem.mp hmem
      next => cases h
  · intro hmem
    fin_cases hmem <;> rfl

/-- With two bytes after the opcode no instruction is truncated. -/
theorem decode_three (op b1 b2 : Byte) (rest : List Byte) :
    decode (op :: b1 :: b2 :: rest) =
      .ok (decodeWindow op b1 b2, (op :: b1 :: b2 :: rest).drop (lengthOfOpcode op)) := by
  unfold decode
  rcases lengthOfOpcode_range op with h | h | h <;> simp [h]

/-! ### The bytes taken are the encoding -/

/-- The bytes an opcode takes of its window are the encoding of the instruction read. -/
def TakenIsEncoding (op b1 b2 : Byte) : Prop :=
  encode (decodeWindow op b1 b2) = [op, b1, b2].take (lengthOfOpcode op)

/-- A byte is its fields (30 R122). -/
theorem exists_opByte (op : Byte) : ∃ (x : Fin 4) (y z : Fin 8), op = opByte x y z := by
  have hx : fieldX op < 4 := by unfold fieldX; omega
  refine ⟨⟨fieldX op, hx⟩, fieldY op, fieldZ op, BitVec.eq_of_toNat_eq ?_⟩
  simp only [opByte, fieldX, fieldY, fieldZ, BitVec.toNat_ofNat]
  omega

/-- The bytes of an instruction with a word operand, which is read from the window's last two. -/
theorem wordOperand_bytes (op b1 b2 : Byte) :
    [op, loByte (pair b2 b1), hiByte (pair b2 b1)] = [op, b1, b2] := by
  rw [lo_pair, hi_pair]

/-- The CB page has no hole (30 R132). -/
theorem encode_decodeCb : ∀ op : Byte, encode (decodeCb op) = [0xCB, op] := by
  decide +kernel

/-- The quarter x = 0: LD (nn),SP and the row of LD rr,nn have a word operand, and STOP's second byte is not
kept (30 R135). -/
theorem takenIsEncoding_x0 (b1 b2 : Byte) :
    ∀ z y : Fin 8, opByte 0 y z ≠ 0x10 → TakenIsEncoding (opByte 0 y z) b1 b2
  | 0, 2, h => absurd rfl h
  | 0, 1, _ | 1, 0, _ | 1, 2, _ | 1, 4, _ | 1, 6, _ => wordOperand_bytes _ b1 b2
  | 0, 0, _ | 0, 3, _ | 0, 4, _ | 0, 5, _ | 0, 6, _ | 0, 7, _ => rfl
  | 1, 1, _ | 1, 3, _ | 1, 5, _ | 1, 7, _ => rfl
  | 2, y, _ | 3, y, _ | 4, y, _ | 5, y, _ | 6, y, _ | 7, y, _ => by fin_cases y <;> exact rfl

/-- The quarters x = 1 and x = 2: loads between registers and the ALU group, with no operand byte. -/
theorem takenIsEncoding_x1_x2 (b1 b2 : Byte) {x : Nat} (hx : x = 1 ∨ x = 2) (y z : Fin 8) :
    TakenIsEncoding (opByte x y z) b1 b2 := by
  rcases hx with rfl | rfl
  · fin_cases z <;> fin_cases y <;> exact rfl
  · fin_cases z <;> fin_cases y <;> exact rfl

/-- The quarter x = 3: the jumps, the calls and the two loads through nn have a word operand, and 0xCB leads to
its page. -/
theorem takenIsEncoding_x3 (b1 b2 : Byte) : ∀ z y : Fin 8, TakenIsEncoding (opByte 3 y z) b1 b2
  | 3, 1 => encode_decodeCb b1
  | 2, 0 | 2, 1 | 2, 2 | 2, 3 | 2, 5 | 2, 7 | 3, 0 | 4, 0 | 4, 1 | 4, 2 | 4, 3 | 5, 1 =>
    wordOperand_bytes _ b1 b2
  | 2, 4 | 2, 6 | 3, 2 | 3, 3 | 3, 4 | 3, 5 | 3, 6 | 3, 7 | 4, 4 | 4, 5 | 4, 6 | 4, 7 => rfl
  | 5, 0 | 5, 2 | 5, 3 | 5, 4 | 5, 5 | 5, 6 | 5, 7 => rfl
  | 0, y | 1, y | 6, y | 7, y => by fin_cases y <;> exact rfl

theorem encode_decodeWindow {op : Byte} (b1 b2 : Byte) (hstop : op ≠ 0x10) :
    encode (decodeWindow op b1 b2) = [op, b1, b2].take (lengthOfOpcode op) := by
  obtain ⟨x, y, z, rfl⟩ := exists_opByte op
  match x with
  | 0 => exact takenIsEncoding_x0 b1 b2 z y hstop
  | 1 => exact takenIsEncoding_x1_x2 b1 b2 (.inl rfl) y z
  | 2 => exact takenIsEncoding_x1_x2 b1 b2 (.inr rfl) y z
  | 3 => exact takenIsEncoding_x3 b1 b2 z y

theorem head?_encode_decodeWindow (op b1 b2 : Byte) : (encode (decodeWindow op b1 b2)).head? = some op := by
  by_cases hstop : op = 0x10
  · subst hstop
    rfl
  · rw [encode_decodeWindow b1 b2 hstop]
    rcases lengthOfOpcode_range op with h | h | h <;> rw [h] <;> rfl

/-- An instruction that is STOP was read from STOP's byte, the first of its encoding. -/
theorem eq_of_decodeWindow_eq_stop {op b1 b2 : Byte} (h : decodeWindow op b1 b2 = .stop) : op = 0x10 := by
  have hhead := head?_encode_decodeWindow op b1 b2
  rw [h] at hhead
  exact (Option.some.inj hhead).symm

/-! ### The illegal bytes (30 R131) -/

/-- The opcode bytes with no defined mapping. -/
def illegalOpcodes : List Byte := [0xD3, 0xDB, 0xDD, 0xE3, 0xE4, 0xEB, 0xEC, 0xED, 0xF4, 0xFC, 0xFD]

theorem encode_of_illegalByte {i : Instr} {b : Byte} (h : i.illegalByte = some b) :
    encode i = [b] ∧ b ∈ illegalOpcodes := by
  unfold Instr.illegalByte at h
  split at h <;> cases h <;> exact ⟨rfl, by decide⟩

/-- An illegal instruction is read from its own byte alone, since that byte is its encoding. -/
theorem illegalByte_decodeWindow (op b1 b2 : Byte) :
    (decodeWindow op b1 b2).illegalByte = if op ∈ illegalOpcodes then some op else none := by
  split
  next hmem =>
    unfold illegalOpcodes at hmem
    fin_cases hmem <;> rfl
  next hmem =>
    refine Option.eq_none_iff_forall_ne_some.mpr fun b hb => hmem ?_
    obtain ⟨hencode, hb⟩ := encode_of_illegalByte hb
    have hhead := head?_encode_decodeWindow op b1 b2
    rw [hencode] at hhead
    exact Option.some.inj hhead ▸ hb

end Sys2Proof.Machine

namespace Sys2Proof.Proofs

open Sys2Proof.Machine

/-- Settles O2: byte 0 gives the length, `encode_decodeWindow` says that the bytes taken are the encoding, and
an instruction's first byte then tells STOP and the illegal instructions. -/
theorem decodeIsTotal : Obligations.DecodeIsTotal := by
  unfold Obligations.DecodeIsTotal
  intro b0 b1 b2 rest
  have hencode (hi : decodeWindow b0 b1 b2 ≠ .stop) :
      [b0, b1, b2].take (lengthOfOpcode b0) = encode (decodeWindow b0 b1 b2) :=
    (encode_decodeWindow b1 b2 fun hstop => hi (by rw [hstop]; rfl)).symm
  exact ⟨decodeWindow b0 b1 b2, lengthOfOpcode b0, decode_three b0 b1 b2 rest,
    lengthOfOpcode_eq_two_iff b0, lengthOfOpcode_eq_three_iff b0, lengthOfOpcode_range b0, hencode,
    eq_of_decodeWindow_eq_stop, illegalByte_decodeWindow b0 b1 b2⟩

end Sys2Proof.Proofs
end

section
/-! SUPPORT. The frame of a bus write (20 R79): a read of an address the write does not touch gives what it gave
before, region by region and, among the I/O registers, register by register. -/

namespace Sys2Proof.Machine

variable {s t : State} {a b : Word} {v : Byte}

/-! ### What a read looks at -/

/-- What a read of `b` looks at, where nothing is blocked, is the same in both states. -/
def SameSource (s t : State) (b : Word) : Prop :=
  match regionOf b with
  | .romLo | .romHi | .extRam => t.cart = s.cart
  | .vram => t.mem.vram = s.mem.vram
  | .wram | .mirror => t.mem.wram = s.mem.wram
  | .oam => t.mem.oam = s.mem.oam
  | .unusable => True
  | .io => t.readIo (ioRegAt (offsetFrom 0xFF00 b)) = s.readIo (ioRegAt (offsetFrom 0xFF00 b))
  | .hram => t.mem.hram = s.mem.hram
  | .ie => t.irq.enable = s.irq.enable

theorem readRaw_of_sameSource (h : SameSource s t b) : t.readRaw b = s.readRaw b := by
  unfold SameSource at h
  cases hb : regionOf b <;> simp only [hb] at h <;> simp only [State.readRaw, State.translate, hb, h]

/-! ### The cartridge's regions -/

/-- A read sees of the cartridge its ROM through the two banks, and its RAM. -/
theorem readRaw_setCart (c : Cart) (hrom : c.rom = s.cart.rom)
    (hlo : regionOf b = .romLo → c.romBankLo = s.cart.romBankLo)
    (hhi : regionOf b = .romHi → c.romBankHi = s.cart.romBankHi)
    (hram : regionOf b = .extRam →
      c.readRam (offsetFrom 0xA000 b) = s.cart.readRam (offsetFrom 0xA000 b)) :
    (s.setCart c).readRaw b = s.readRaw b := by
  cases hb : regionOf b
  case romLo => rw [readRaw_romLo _ hb, readRaw_romLo _ hb, State.setCart_cart, hrom, hlo hb]
  case romHi => rw [readRaw_romHi _ hb, readRaw_romHi _ hb, State.setCart_cart, hrom, hhi hb]
  case extRam => rw [readRaw_extRam _ hb, readRaw_extRam _ hb, State.setCart_cart, hram hb]
  all_goals exact readRaw_of_sameSource (by simp only [SameSource, hb] <;> rfl)

/-- Each of MBC1's registers shows in some of the cartridge's regions only (20 R92-R95); NoMBC has none. -/
theorem readRaw_bankingWrite (ha : regionOf a = .romLo ∨ regionOf a = .romHi) (h : touches s a b = false) :
    (s.setCart (s.cart.bankingWrite a.toNat v)).readRaw b = s.readRaw b := by
  cases hmbc : s.cart.mbc
  case noMbc =>
    rw [bankingWrite_noMbc v hmbc]
    rfl
  case mbc1 =>
    replace h : (if a.toNat < 0x2000 then decide (regionOf b = .extRam)
        else if a.toNat < 0x4000 then decide (regionOf b = .romHi)
        else if a.toNat < 0x6000 then
          decide (regionOf b = .romLo) || decide (regionOf b = .romHi) || decide (regionOf b = .extRam)
        else decide (regionOf b = .romLo) || decide (regionOf b = .extRam)) = false := by
      rcases ha with ha | ha <;> simpa only [touches, ha, hmbc, decide_true, Bool.true_and] using h
    split_ifs at h with henable hbank1 hbank2 <;> simp only [Bool.or_eq_false_iff, decide_eq_false_iff_not] at h
    · rw [bankingWrite_ramEnable v hmbc henable]
      exact readRaw_setCart _ rfl (fun _ => rfl) (fun _ => rfl) fun hb => absurd hb h
    · rw [bankingWrite_bank1 v hmbc (by omega) hbank1]
      exact readRaw_setCart _ rfl (fun _ => rfl) (fun hb => absurd hb h) fun _ => rfl
    · rw [bankingWrite_bank2 v hmbc (by omega) hbank2]
      obtain ⟨⟨hlo, hhi⟩, hram⟩ := h
      exact readRaw_setCart _ rfl (fun hb => absurd hb hlo) (fun hb => absurd hb hhi) fun hb => absurd hb hram
    · rw [bankingWrite_mode v hmbc (by omega)]
      obtain ⟨hlo, hram⟩ := h
      exact readRaw_setCart _ rfl (fun hb => absurd hb hlo) (fun _ => rfl) fun hb => absurd hb hram

/-- A write to external RAM shows at the addresses of its cell alone (20 R67). -/
theorem readRaw_writeRaw_extRam (ha : regionOf a = .extRam) (h : touches s a b = false) :
    (s.writeRaw a v).readRaw b = s.readRaw b := by
  rw [writeRaw_extRam s v ha]
  unfold Cart.writeRam
  split
  · refine readRaw_setCart _ rfl (fun _ => rfl) (fun _ => rfl) fun hb => ?_
    have hcell : s.cart.ramOffset (offsetFrom 0xA000 b) ≠ s.cart.ramOffset (offsetFrom 0xA000 a) := by
      simpa [touches, ha, hb, State.translate] using h
    exact congrArg (fun x => if s.cart.ramOpen then x else 0xFF) (Store.get_set_other _ v hcell)
  · rfl

/-! ### The console's memories -/

/-- A read sees of the memories one cell, or an I/O register. -/
theorem readRaw_setMem (m : Mem)
    (hvram : regionOf b = .vram → Store.get m.vram (s.translate b).1 = Store.get s.mem.vram (s.translate b).1)
    (hwram : regionOf b = .wram ∨ regionOf b = .mirror →
      Store.get m.wram (s.translate b).1 = Store.get s.mem.wram (s.translate b).1)
    (hoam : regionOf b = .oam → Store.get m.oam (s.translate b).1 = Store.get s.mem.oam (s.translate b).1)
    (hhram : regionOf b = .hram → Store.get m.hram (s.translate b).1 = Store.get s.mem.hram (s.translate b).1)
    (hio : regionOf b = .io →
      (s.setMem m).readIo (ioRegAt (s.translate b).1) = s.readIo (ioRegAt (s.translate b).1)) :
    (s.setMem m).readRaw b = s.readRaw b := by
  have htranslate : (s.setMem m).translate b = s.translate b := rfl
  unfold State.readRaw
  rw [htranslate]
  cases hb : regionOf b
  case vram => exact hvram hb
  case wram => exact hwram (.inl hb)
  case mirror => exact hwram (.inr hb)
  case oam => exact hoam hb
  case hram => exact hhram hb
  case io => exact hio hb
  all_goals rfl

/-- VRAM, OAM and HRAM have one address for each cell. -/
theorem cell_ne_of_not_touches (h : touches s a b = false) (hmem : regionOf a ∈ [Region.vram, .oam, .hram])
    (hr : regionOf b = regionOf a) : (s.translate b).1 ≠ (s.translate a).1 := by
  intro hcell
  simp only [List.mem_cons, List.not_mem_nil, or_false] at hmem
  rcases hmem with ha | ha | ha <;>
    simp only [touches, State.translate, hr, ha, decide_eq_false_iff_not] at h hcell <;>
    exact h (offsetFrom_inj hcell)

/-- WRAM and its mirror are one memory (20 R69). -/
theorem wramCell_ne_of_not_touches (h : touches s a b = false) (ha : regionOf a = .wram ∨ regionOf a = .mirror)
    (hb : regionOf b = .wram ∨ regionOf b = .mirror) : (s.translate b).1 ≠ (s.translate a).1 := by
  have hregion : (decide (regionOf b = .wram) || decide (regionOf b = .mirror)) = true := by
    simpa only [Bool.or_eq_true, decide_eq_true_iff] using hb
  rcases ha with ha | ha <;>
    simpa only [touches, ha, hregion, Bool.true_and, decide_eq_false_iff_not] using h

/-! ### The I/O registers (20 R79) -/

/-- The registers whose reads a write to a register may change. -/
def IoReg.alters : IoReg → List IoReg
  | .p1 => [.p1, .iflag]
  | .div => [.div, .tima]
  | .tac => [.tac, .tima]
  | .lcdc => [.lcdc, .stat, .ly, .iflag]
  | .stat => [.stat, .iflag]
  | .lyc => [.lyc, .stat, .iflag]
  | .ly | .unmapped => []
  | r => [r]

/-- Evaluating the STAT line shows in IF alone: the line itself cannot be read (65 R378). -/
theorem setPpuAndStat_readIo (p : Ppu) {q : IoReg} (h : q ≠ .iflag) :
    (s.setPpuAndStat p).readIo q = (s.setPpu p).readIo q := by
  unfold State.setPpuAndStat State.requestIf
  simp only
  split <;> cases q <;> first | rfl | exact absurd rfl h

/-- What LCDC's write sets of the PPU: of these LCDC, LY and the mode can be read (65 R398). -/
theorem writeLcdc_kept (p : Ppu) (v : Byte) : ∃ ly dot mode statLine wyHit winLine objs drawLen,
    p.writeLcdc v = { p with
      lcdc := v, ly := ly, dot := dot, mode := mode, statLine := statLine, wyHit := wyHit, winLine := winLine,
      objs := objs, drawLen := drawLen } := by
  unfold Ppu.writeLcdc
  simp only
  split_ifs <;> exact ⟨_, _, _, _, _, _, _, _, rfl⟩

/-- A write to DIV or TAC may clock TIMA, and sets no other register than its own besides (60 R342). -/
theorem resetDiv_kept (delay : Nat) (u : Timer) : ∃ tima wait,
    u.resetDiv delay = { u with div := 0, tima := tima, reloadWait := wait } := by
  unfold Timer.resetDiv Timer.setDiv Timer.incTima
  simp only
  split_ifs <;> exact ⟨_, _, rfl⟩

theorem writeTac_kept (delay : Nat) (u : Timer) (v : Byte) : ∃ tima wait,
    u.writeTac delay v = { u with tac := v.setWidth 3, tima := tima, reloadWait := wait } := by
  unfold Timer.writeTac Timer.incTima
  simp only
  split_ifs <;> exact ⟨_, _, rfl⟩

/-- A register the write does not alter reads as before. -/
theorem readIo_writeIo {r q : IoReg} (h : q ∉ r.alters) : (s.writeIo r v).readIo q = s.readIo q := by
  cases r
  case p1 =>
    obtain ⟨run, flags, hpad, -⟩ := changePad_spec s { s.pad with selAct := bitOf v 5, selDir := bitOf v 4 }
    rw [State.writeIo, hpad]
    cases q <;> first | rfl | exact absurd (by decide) h
  case lcdc =>
    rw [State.writeIo, setPpuAndStat_readIo _ (by rintro rfl; exact h (by decide))]
    obtain ⟨ly, dot, mode, statLine, wyHit, winLine, objs, drawLen, hp⟩ := writeLcdc_kept s.ppu v
    rw [hp]
    cases q <;> first | rfl | exact absurd (by decide) h
  case stat | lyc =>
    rw [State.writeIo, setPpuAndStat_readIo _ (by rintro rfl; exact h (by decide))]
    cases q <;> first | rfl | exact absurd (by decide) h
  case sound i =>
    cases q
    case sound j => exact Store.get_set_other _ v (by rintro rfl; exact h (List.mem_singleton_self _))
    all_goals rfl
  case div =>
    obtain ⟨tima, wait, htimer⟩ := resetDiv_kept s.params.timaReloadDelay s.timer
    rw [State.writeIo, htimer]
    cases q <;> first | rfl | exact absurd (by decide) h
  case tac =>
    obtain ⟨tima, wait, htimer⟩ := writeTac_kept s.params.timaReloadDelay s.timer v
    rw [State.writeIo, htimer]
    cases q <;> first | rfl | exact absurd (by decide) h
  all_goals cases q <;> first | rfl | exact absurd (by decide) h

/-- An I/O write leaves the cartridge, every memory but the sound registers and a DMA's OAM, and IE. -/
theorem writeIo_kept (s : State) (r : IoReg) (v : Byte) :
    (s.writeIo r v).cart = s.cart ∧ (s.writeIo r v).mem.vram = s.mem.vram ∧
      (s.writeIo r v).mem.wram = s.mem.wram ∧ (r ≠ .dma → (s.writeIo r v).mem.oam = s.mem.oam) ∧
      (s.writeIo r v).mem.hram = s.mem.hram ∧ (s.writeIo r v).irq.enable = s.irq.enable := by
  cases r
  case p1 =>
    obtain ⟨run, flags, hpad, -⟩ := changePad_spec s { s.pad with selAct := bitOf v 5, selDir := bitOf v 4 }
    rw [State.writeIo, hpad]
    exact ⟨rfl, rfl, rfl, fun _ => rfl, rfl, rfl⟩
  case lcdc | stat | lyc =>
    unfold State.writeIo State.setPpuAndStat State.requestIf
    simp only
    split <;> exact ⟨rfl, rfl, rfl, fun _ => rfl, rfl, rfl⟩
  case dma => exact ⟨rfl, rfl, rfl, fun h => absurd rfl h, rfl, rfl⟩
  all_goals exact ⟨rfl, rfl, rfl, fun _ => rfl, rfl, rfl⟩

/-- A register that is mapped has one address (10 R34). -/
theorem ioRegAt_inj {m n : Nat} (h : ioRegAt m = ioRegAt n) (hn : ioRegAt n ≠ .unmapped) : m = n := by
  have hm := ioRegAt_offset m
  have hn' := ioRegAt_offset n
  rw [h] at hm
  cases hr : ioRegAt n <;> simp only [hr] at hm hn' hn <;> first | omega | exact absurd rfl hn

/-- The registers a write alters are at the addresses it touches. -/
theorem touches_of_mem_alters (ha : regionOf a = .io)
    (h : ioRegAt (offsetFrom 0xFF00 b) ∈ (ioRegAt (offsetFrom 0xFF00 a)).alters) : touches s a b = true := by
  have address {c : Word} {r : IoReg} (hc : ioRegAt (offsetFrom 0xFF00 c) = r) (hmapped : r ≠ .unmapped)
      (hb : ioRegAt (offsetFrom 0xFF00 b) = r) : b = c :=
    offsetFrom_inj (ioRegAt_inj (hb.trans hc.symm) (hc ▸ hmapped))
  have hiflag := address (c := 0xFF0F) (r := .iflag) (by decide) (by decide)
  have htima := address (c := 0xFF05) (r := .tima) (by decide) (by decide)
  have hstat := address (c := 0xFF41) (r := .stat) (by decide) (by decide)
  have hly := address (c := 0xFF44) (r := .ly) (by decide) (by decide)
  cases hr : ioRegAt (offsetFrom 0xFF00 a) <;>
    simp only [hr, IoReg.alters, List.mem_cons, List.not_mem_nil, or_false] at h <;>
    simp only [touches, ha, hr, Bool.or_eq_true, decide_eq_true_iff]
  case p1 => exact h.imp (address hr (by decide)) hiflag
  case div | tac => exact h.imp (address hr (by decide)) htima
  case stat => exact h.imp (address hr (by decide)) hiflag
  case lyc => exact (or_assoc.mpr h).imp (Or.imp (address hr (by decide)) hstat) hiflag
  case lcdc =>
    rcases h with h | h | h | h
    · simp [address hr (by decide) h]
    · simp [hstat h]
    · simp [hly h]
    · simp [hiflag h]
  case sound i => exact address hr (by simp) h
  case dma => exact .inl (address hr (by decide) h)
  all_goals exact address hr (by decide) h

theorem readRaw_writeRaw_io (ha : regionOf a = .io) (h : touches s a b = false) :
    (s.writeRaw a v).readRaw b = s.readRaw b := by
  rw [writeRaw_io s v ha]
  obtain ⟨hcart, hvram, hwram, hoam, hhram, hie⟩ := writeIo_kept s (ioRegAt (offsetFrom 0xFF00 a)) v
  apply readRaw_of_sameSource
  cases hb : regionOf b <;> simp only [SameSource, hb]
  case oam =>
    refine hoam fun hdma => ?_
    simp only [touches, ha, hb, hdma, decide_true, Bool.or_true, Bool.true_eq_false] at h
  case io =>
    refine readIo_writeIo fun hmem => ?_
    rw [touches_of_mem_alters ha hmem] at h
    cases h
  all_goals assumption

/-- IE has one address. -/
theorem eq_of_region_ie (hb : regionOf b = .ie) (ha : regionOf a = .ie) : b = a := by
  have hb' := regionOf_bounds b
  have ha' := regionOf_bounds a
  rw [hb] at hb'
  rw [ha] at ha'
  exact BitVec.eq_of_toNat_eq (hb'.trans ha'.symm)

/-- Where nothing is blocked, a write changes no read but those it touches (20 R79). -/
theorem readRaw_writeRaw_of_not_touches (h : touches s a b = false) : (s.writeRaw a v).readRaw b = s.readRaw b := by
  cases ha : regionOf a
  case romLo =>
    rw [writeRaw_romLo s v ha]
    exact readRaw_bankingWrite (.inl ha) h
  case romHi =>
    rw [writeRaw_romHi s v ha]
    exact readRaw_bankingWrite (.inr ha) h
  case extRam => exact readRaw_writeRaw_extRam ha h
  case unusable => rw [writeRaw_unusable s v ha]
  case io => exact readRaw_writeRaw_io ha h
  case ie =>
    rw [writeRaw_ie s v ha]
    refine readRaw_of_sameSource ?_
    cases hb : regionOf b <;> simp only [SameSource, hb]
    case ie =>
      simp only [touches, ha, decide_eq_false_iff_not] at h
      exact absurd (eq_of_region_ie hb ha) h
    all_goals rfl
  case vram =>
    simp only [State.writeRaw, ha]
    exact readRaw_setMem _
      (fun hb => Store.get_set_other _ v (cell_ne_of_not_touches h (by simp [ha]) (hb.trans ha.symm)))
      (fun _ => rfl) (fun _ => rfl) (fun _ => rfl) fun _ => rfl
  case oam =>
    simp only [State.writeRaw, ha]
    exact readRaw_setMem _ (fun _ => rfl) (fun _ => rfl)
      (fun hb => Store.get_set_other _ v (cell_ne_of_not_touches h (by simp [ha]) (hb.trans ha.symm)))
      (fun _ => rfl) fun _ => rfl
  case hram =>
    simp only [State.writeRaw, ha]
    exact readRaw_setMem _ (fun _ => rfl) (fun _ => rfl) (fun _ => rfl)
      (fun hb => Store.get_set_other _ v (cell_ne_of_not_touches h (by simp [ha]) (hb.trans ha.symm)))
      fun _ => rfl
  case wram | mirror =>
    simp only [State.writeRaw, ha]
    exact readRaw_setMem _ (fun _ => rfl)
      (fun hb => Store.get_set_other _ v (wramCell_ne_of_not_touches h (by simp [ha]) hb))
      (fun _ => rfl) (fun _ => rfl) fun _ => rfl

/-- A write to LCDC touches the regions the PPU's mode may block; no other write changes what is blocked. -/
theorem write8_blocked_of_not_touches (s : State) (v : Byte) (h : touches s a b = false) :
    (s.write8 a v).blocked b = s.blocked b := by
  by_cases ha : a = 0xFF40
  · subst ha
    have hb : (regionOf b).contended = false := by
      cases hb : regionOf b
      case vram | oam | unusable =>
        have hio : regionOf 0xFF40 = .io := by decide
        have hlcdc : ioRegAt (offsetFrom 0xFF00 0xFF40) = .lcdc := by decide
        simp only [touches, hio, hlcdc, hb, decide_true, Bool.or_true, Bool.true_or, Bool.true_eq_false] at h
      all_goals rfl
    rw [blocked_eq_false _ hb, blocked_eq_false _ hb]
  · exact write8_blocked s v ha b

/-- The frame of a bus write: a read of an address it does not touch is as before (20 R79). -/
theorem read8_write8_of_not_touches (s : State) (v : Byte) (h : touches s a b = false) :
    (s.write8 a v).read8 b = s.read8 b := by
  have hblocked := write8_blocked_of_not_touches s v h
  cases ha : s.blocked a
  case true => rw [write8_of_blocked s v ha]
  case false =>
    rw [write8_of_not_blocked s v ha] at hblocked ⊢
    unfold State.read8
    rw [hblocked, readRaw_writeRaw_of_not_touches h]

end Sys2Proof.Machine
end

section
/-! SUPPORT. The 8-bit loads (40 R150-R168): what a load to a register and a store to memory leave, said once for
each shape, and the operation each instruction of a family runs. -/

namespace Sys2Proof.Machine

/-! ### The shapes -/

/-- An instruction that fetches, writes `v` to `dst` and charges `n` is a load (40 R150-R164). -/
theorem loadsByte_of {i : Instr} {bytes : List Byte} {n : Nat} {dst : Reg8} {v : State → Byte}
    (hencode : encode i = bytes) (hlen : 1 ≤ bytes.length)
    (hexec : ∀ s, exec i s = .next (((s.advance bytes.length).setReg dst (v s)).charge n)) :
    LoadsByte i bytes n dst v := by
  refine ⟨hencode, fun s => ⟨_, ⟨hexec s, ?_, ?_⟩, ?_, ?_, ?_, ?_⟩⟩
  · simp [advance_pc s hlen]
  · simp
  · exact Cpu.get_set_same _ dst (v s)
  · simp
  · simp
  · refine quietFrame_of (fun r hr => ?_) (by simp) (by simp) (by simp) (by simp) (UnitsKept.refl s)
    exact (Cpu.get_set_other _ _ (List.ne_of_not_mem_cons hr)).trans (advance_get s _ r)

/-- What a bus write after the fetch leaves of the CPU: all but `run`. -/
theorem write8_advance_cpu (s : State) {len : Nat} (hlen : 1 ≤ len) (a : Word) (v : Byte) :
    ((s.advance len).write8 a v).cpu =
      { s.cpu with pc := s.nextPc len, haltBug := false, run := ((s.advance len).write8 a v).cpu.run } := by
  rw [write8_cpu, advance_cpu s hlen]

theorem write8_advance_cost (s : State) (len : Nat) (a : Word) (v : Byte) :
    ((s.advance len).write8 a v).cost = dmaCharge s a := by
  rw [write8_cost, advance_cost, Nat.zero_add]
  rfl

/-- A bus write after the fetch, then a CPU that differs in the registers of `w` alone. -/
theorem storeFrame_write8_advance {w : List Reg8} {s t : State} (len : Nat) {a : Word} {v : Byte}
    (hunits : UnitsKept ((s.advance len).write8 a v) t)
    (hime : t.cpu.ime = s.cpu.ime) (hei : t.cpu.eiPending = s.cpu.eiPending) (hbug : t.cpu.haltBug = false)
    (hrun : t.cpu.run = ((s.advance len).write8 a v).cpu.run)
    (hregs : ∀ r, r ∉ w → t.cpu.get r = s.cpu.get r) : StoreFrame w a v s t :=
  storeFrame_of (unitsKept_advance s len) rfl rfl rfl rfl (fun r _ => advance_get s len r) hunits
    ⟨hime, hei, hbug, hrun⟩ (fun r hr => (hregs r hr).trans (advance_get s len r).symm)
    fun _ h => read8_write8_of_not_touches s v h

/-- An instruction that fetches, writes `v` at `a` and charges `n` is a store (40 R152-R164). -/
theorem storesByte_of {i : Instr} {bytes : List Byte} {n : Nat} {a : State → Word} {v : State → Byte}
    (hencode : encode i = bytes) (hlen : 1 ≤ bytes.length)
    (hexec : ∀ s, exec i s = .next (((s.advance bytes.length).write8 (a s) (v s)).charge n)) :
    StoresByte i bytes n a v := by
  refine ⟨hencode, fun s => ⟨_, ⟨hexec s, ?_, ?_⟩, ?_, ?_, ?_⟩⟩
  all_goals have hcpu := write8_advance_cpu s hlen (a s) (v s)
  · rw [State.charge_cpu, hcpu]
  · rw [State.charge_cost, write8_advance_cost, Nat.add_comm]
  · rw [State.charge_cpu, hcpu]
  · rw [State.charge_cpu, hcpu]
  · refine storeFrame_write8_advance bytes.length (UnitsKept.refl _) ?_ ?_ ?_ rfl fun r _ => ?_
    all_goals rw [State.charge_cpu, hcpu]
    cases r <;> rfl

/-! ### The families' instructions and operations -/

theorem encode_ldRegReg (dst src : Reg8) : encode (.ldRegReg dst src) = [opByte 1 dst.code src.code] := by
  cases dst <;> cases src <;> rfl

theorem exec_ldRegReg (dst src : Reg8) (s : State) : exec (.ldRegReg dst src) s = .next (ldRegReg dst src s) := by
  cases dst <;> cases src <;> rfl

theorem encode_ldRegImm (dst : Reg8) (n : Byte) : encode (.ldRegImm dst n) = [opByte 0 dst.code 6, n] := by
  cases dst <;> rfl

theorem exec_ldRegImm (dst : Reg8) (n : Byte) (s : State) :
    exec (.ldRegImm dst n) s = .next (ldRegImm dst n s) := by
  cases dst <;> rfl

theorem encode_ldRegMem (dst : Reg8) : encode (.ldRegMem dst) = [opByte 1 dst.code 6] := by
  cases dst <;> rfl

theorem exec_ldRegMem (dst : Reg8) (s : State) : exec (.ldRegMem dst) s = .next (ldRegMem dst s) := by
  cases dst <;> rfl

theorem encode_ldMemReg (src : Reg8) : encode (.ldMemReg src) = [opByte 1 6 src.code] := by
  cases src <;> rfl

theorem exec_ldMemReg (src : Reg8) (s : State) : exec (.ldMemReg src) s = .next (ldMemReg src s) := by
  cases src <;> rfl

/-- The I/O page address as a sum (30 R123). -/
theorem ioAddress_eq (n : Byte) : ioAddress n = 0xFF00 + n.setWidth 16 := by
  have hn := n.isLt
  apply BitVec.eq_of_toNat_eq
  rw [ioAddress, pair, BitVec.toNat_append, BitVec.toNat_add, BitVec.toNat_setWidth,
    ← Nat.shiftLeft_add_eq_or_of_lt hn, Nat.shiftLeft_eq]
  show 255 * 256 + n.toNat = (0xFF00 + n.toNat % 65536) % 65536
  omega

/-! ### The accumulator and memory (40 R155-R164) -/

theorem loadsByte_ldAccMem {i : Instr} {bytes : List Byte} {n : Nat} {a : State → Word}
    (hencode : encode i = bytes) (hlen : 1 ≤ bytes.length)
    (hexec : ∀ s, exec i s = .next (ldAccMem bytes.length n (a s) s)) :
    LoadsByte i bytes n .a (fun s => s.read8 (a s)) :=
  loadsByte_of hencode hlen fun s => by rw [hexec, ldAccMem, advance_read8]

theorem storesByte_ldMemAcc {i : Instr} {bytes : List Byte} {n : Nat} {a : State → Word}
    (hencode : encode i = bytes) (hlen : 1 ≤ bytes.length)
    (hexec : ∀ s, exec i s = .next (ldMemAcc bytes.length n (a s) s)) :
    StoresByte i bytes n a (·.reg .a) :=
  storesByte_of hencode hlen fun s => by rw [hexec, ldMemAcc, advance_reg]

/-! ### The loads that move HL (40 R165-R168) -/

/-- Writing HL changes H and L alone. -/
theorem setPair_hl_get (k : Cpu) (x : Word) {r : Reg8} (hr : r ∉ [Reg8.h, .l]) :
    (k.setPair .hl x).get r = k.get r := (Cpu.setPair_spec k .hl x).1 r hr

/-- The store is at the HL before the step. -/
theorem ldMemHlStep_completes {i : Instr} {d : Word} {s : State} (hexec : exec i s = .next (ldMemHlStep d s)) :
    ∃ t, Completes i s t 1 (8 + dmaCharge s s.hl) ∧ t.hl = s.hl + d ∧ t.cpu.f = s.cpu.f ∧
      t.cpu.sp = s.cpu.sp ∧ StoreFrame [.h, .l] s.hl (s.reg .a) s t := by
  have hcpu := write8_advance_cpu s (le_refl 1) s.hl (s.reg .a)
  have hstep : (ldMemHlStep d s).cpu = (((s.advance 1).write8 s.hl (s.reg .a)).cpu).setPair .hl (s.hl + d) := rfl
  rw [hcpu] at hstep
  refine ⟨_, ⟨hexec, ?_, ?_⟩, ?_, ?_, ?_, ?_⟩
  · rw [hstep, Cpu.setPair_pc]
  · rw [Nat.add_comm, ← write8_advance_cost s 1 s.hl (s.reg .a)]
    rfl
  · exact Cpu.getPair_setPair_same _ .hl _
  · rw [hstep, Cpu.setPair_f]
  · rw [hstep]
    rfl
  · refine storeFrame_write8_advance 1 (UnitsKept.refl _) ?_ ?_ ?_ rfl fun r hr => ?_
    all_goals rw [hstep]
    · rfl
    · rfl
    · rfl
    · rw [setPair_hl_get _ _ hr]
      cases r <;> rfl

/-- The load is from the HL before the step. -/
theorem ldAccHlStep_completes {i : Instr} {d : Word} {s : State} (hexec : exec i s = .next (ldAccHlStep d s)) :
    ∃ t, Completes i s t 1 8 ∧ t.reg .a = s.read8 s.hl ∧ t.hl = s.hl + d ∧ t.cpu.f = s.cpu.f ∧
      t.cpu.sp = s.cpu.sp ∧ QuietFrame [.a, .h, .l] s t := by
  have hstep : ldAccHlStep d s =
      (((s.advance 1).setReg .a (s.read8 s.hl)).setPair .hl (s.hl + d)).charge 8 := by
    rw [ldAccHlStep, advance_hl, advance_read8]
  rw [hstep] at hexec
  refine ⟨_, ⟨hexec, ?_, ?_⟩, ?_, ?_, ?_, ?_, ?_⟩
  · simp [advance_pc s (le_refl 1)]
  · simp
  · rfl
  · exact Cpu.getPair_setPair_same _ .hl _
  · simp
  · rfl
  · refine quietFrame_of (fun r hr => ?_) (by simp) (by simp) (by simp) (by simp) (UnitsKept.refl s)
    exact (setPair_hl_get _ _ (List.not_mem_of_not_mem_cons hr)).trans
      ((Cpu.get_set_other _ _ (List.ne_of_not_mem_cons hr)).trans (advance_get s 1 r))

end Sys2Proof.Machine

namespace Sys2Proof.Proofs

open Sys2Proof.Machine

/-- Settles O38: both families are of the load's shape, which `loadsByte_of` proves once. -/
theorem registerLoads : Obligations.RegisterLoads := by
  unfold Obligations.RegisterLoads
  constructor
  · intro dst src
    refine loadsByte_of (encode_ldRegReg dst src) (le_refl 1) fun s => ?_
    rw [exec_ldRegReg, ldRegReg, advance_reg]
    rfl
  · intro dst n
    exact loadsByte_of (encode_ldRegImm dst n) (by simp) fun s => exec_ldRegImm dst n s

/-- Settles O39: the register forms are of the load's shape, and so is each load of A. -/
theorem memoryLoads : Obligations.MemoryLoads := by
  unfold Obligations.MemoryLoads
  refine ⟨fun dst => loadsByte_of (encode_ldRegMem dst) (le_refl 1) fun s => ?_,
    loadsByte_ldAccMem rfl (by decide) fun s => rfl,
    loadsByte_ldAccMem rfl (by decide) fun s => rfl,
    fun nn => loadsByte_ldAccMem rfl (by simp) fun s => rfl,
    fun n => loadsByte_ldAccMem rfl (by simp) fun s => ?_,
    loadsByte_ldAccMem rfl (by decide) fun s => ?_⟩
  · rw [exec_ldRegMem, ldRegMem, advance_hl, advance_read8]
    rfl
  · rw [← ioAddress_eq]
    rfl
  · rw [← ioAddress_eq]
    rfl

/-- Settles O40: each form is of the store's shape, whose frame is `read8_write8_of_not_touches`. -/
theorem memoryStores : Obligations.MemoryStores := by
  unfold Obligations.MemoryStores
  refine ⟨fun src => storesByte_of (encode_ldMemReg src) (le_refl 1) fun s => ?_,
    fun n => storesByte_of rfl (by simp) fun s => rfl,
    storesByte_ldMemAcc rfl (by decide) fun s => rfl,
    storesByte_ldMemAcc rfl (by decide) fun s => rfl,
    fun nn => storesByte_ldMemAcc rfl (by simp) fun s => rfl,
    fun n => storesByte_ldMemAcc rfl (by simp) fun s => ?_,
    storesByte_ldMemAcc rfl (by decide) fun s => ?_⟩
  · rw [exec_ldMemReg, ldMemReg, advance_hl, advance_reg]
    rfl
  · rw [← ioAddress_eq]
    rfl
  · rw [← ioAddress_eq]
    rfl

/-- Settles O41: both directions run one operation, with HL moved by 1 or by -1; the stored byte's frame is that of
the write at the HL before the step. -/
theorem pointerStepLoads : Obligations.PointerStepLoads := by
  unfold Obligations.PointerStepLoads
  constructor <;> intro i byte d h <;> simp only [List.mem_cons, List.not_mem_nil, or_false] at h
  · rcases h with ⟨rfl, rfl, rfl⟩ | ⟨rfl, rfl, rfl⟩ <;> exact ⟨rfl, fun s => ldMemHlStep_completes rfl⟩
  · rcases h with ⟨rfl, rfl, rfl⟩ | ⟨rfl, rfl, rfl⟩ <;> exact ⟨rfl, fun s => ldAccHlStep_completes rfl⟩

end Sys2Proof.Proofs
end

section
/-! SUPPORT. The 16-bit loads and arithmetic (41 R181-R189; 43 R235-R238): what an instruction that writes a pair and
the flags leaves, what two bus writes leave, the push and the pop after a fetch, and the operation each instruction
runs. -/

namespace Sys2Proof.Machine

/-! ### A pair and the flags -/

@[simp] theorem advance_pairOf (s : State) (len : Nat) (p : Pair) : (s.advance len).pairOf p = s.pairOf p := by
  cases p <;> rfl

@[simp] theorem setFlags_pairOf (s : State) (f : Flags) (p : Pair) : (s.setFlags f).pairOf p = s.pairOf p := by
  cases p <;> rfl

@[simp] theorem setFlags_reg (s : State) (f : Flags) (r : Reg8) : (s.setFlags f).reg r = s.reg r := by
  cases r <;> rfl

/-- Writing a pair leaves the flags, so writing them as they were changes nothing. -/
theorem setPair_setFlags_self (s : State) (p : Pair) (v : Word) :
    (s.setPair p v).setFlags s.cpu.f = s.setPair p v := by
  cases p <;> rfl

/-- An instruction that fetches, writes `v` to the pair `p` and `f` to the flags and charges `n` completes, and
changes nothing else. -/
theorem setPair_setFlags_completes {i : Instr} {s : State} {len n : Nat} {p : Pair} {v : Word} {f : Flags}
    (hlen : 1 ≤ len) (hexec : exec i s = .next ((((s.advance len).setPair p v).setFlags f).charge n)) :
    ∃ t, Completes i s t len n ∧ t.pairOf p = v ∧ t.cpu.f = f ∧ (p ≠ .sp → t.cpu.sp = s.cpu.sp) ∧
      QuietFrame (pairHalves p) s t := by
  obtain ⟨hregs, hsp, -⟩ := Cpu.setPair_spec (s.advance len).cpu p v
  refine ⟨_, ⟨hexec, ?_, ?_⟩, ?_, rfl, hsp, ?_⟩
  · simp [advance_pc s hlen]
  · simp
  · exact (setFlags_pairOf _ f p).trans (Cpu.getPair_setPair_same _ p v)
  · refine quietFrame_of (fun r hr => ?_) (by simp) (by simp) (by simp) (by simp) (UnitsKept.refl s)
    exact (setFlags_reg _ f r).trans ((hregs r hr).trans (advance_get s len r))

/-- The same for an instruction that writes no flag. -/
theorem setPair_completes {i : Instr} {s : State} {len n : Nat} {p : Pair} {v : Word} (hlen : 1 ≤ len)
    (hexec : exec i s = .next (((s.advance len).setPair p v).charge n)) :
    ∃ t, Completes i s t len n ∧ t.pairOf p = v ∧ (p ≠ .sp → t.cpu.sp = s.cpu.sp) ∧ t.cpu.f = s.cpu.f ∧
      QuietFrame (pairHalves p) s t := by
  rw [← setPair_setFlags_self] at hexec
  obtain ⟨t, hdone, hpair, hf, hsp, hframe⟩ := setPair_setFlags_completes hlen hexec
  exact ⟨t, hdone, hpair, hsp, hf, hframe⟩

/-! ### The instructions that write a pair (41 R181; 43 R235-R237) -/

theorem encode_ldPairImm (p : Pair) (nn : Word) :
    encode (.ldPairImm p nn) = [opByte 0 (2 * p.code) 1, loByte nn, hiByte nn] := by
  cases p <;> rfl

theorem exec_ldPairImm (p : Pair) (nn : Word) (s : State) :
    exec (.ldPairImm p nn) s = .next (ldPairImm p nn s) := by
  cases p <;> rfl

theorem encode_incPair (p : Pair) : encode (.incPair p) = [opByte 0 (2 * p.code) 3] := by
  cases p <;> rfl

theorem exec_incPair (p : Pair) (s : State) : exec (.incPair p) s = .next (incPair p s) := by
  cases p <;> rfl

theorem encode_decPair (p : Pair) : encode (.decPair p) = [opByte 0 (2 * p.code + 1) 3] := by
  cases p <;> rfl

theorem exec_decPair (p : Pair) (s : State) : exec (.decPair p) s = .next (decPair p s) := by
  cases p <;> rfl

theorem encode_addHl (p : Pair) : encode (.addHl p) = [opByte 0 (2 * p.code + 1) 1] := by
  cases p <;> rfl

theorem exec_addHl (p : Pair) (s : State) : exec (.addHl p) s = .next (addHl p s) := by
  cases p <;> rfl

/-! ### The sums (41 R184; 43 R235) -/

/-- The sum with a sign-extended byte, in the integers (00 R8). -/
theorem add_sext16_toNat (sp : Word) (e : Byte) :
    ((sp + sext16 e).toNat : Int) = ((sp.toNat : Int) + e.toInt) % 65536 := by
  rw [sext16, BitVec.signExtend, BitVec.toNat_add, BitVec.toNat_ofInt]
  omega

/-- `AddSPe(e)` has the effect 41 R184 gives it. -/
theorem addSpResult_effect (sp : Word) (e : Byte) :
    AddSpEffect sp e (addSpResult sp e).1 (addSpResult sp e).2 :=
  ⟨add_sext16_toNat sp e, rfl, rfl, decide_eq_true_iff, decide_eq_true_iff⟩

/-! ### The pop (41 R186, R188, R189) -/

/-- Writing a stack pair changes its 8-bit registers, F left out, alone. -/
theorem setStackPair_get (k : Cpu) (p : StackPair) (v : Word) {r : Reg8} (hr : r ∉ stackPairHalves p) :
    (k.setStackPair p v).get r = k.get r := by
  cases p
  case bc => exact (Cpu.setPair_spec k .bc v).1 r hr
  case de => exact (Cpu.setPair_spec k .de v).1 r hr
  case hl => exact (Cpu.setPair_spec k .hl v).1 r hr
  case af =>
    refine Eq.trans ?_ (Cpu.get_set_other k (hiByte v) (List.ne_of_not_mem_cons hr))
    cases r <;> rfl

theorem encode_pop (p : StackPair) : encode (.pop p) = [opByte 3 (2 * p.code) 1] := by
  cases p <;> rfl

theorem exec_pop (p : StackPair) (s : State) : exec (.pop p) s = .next (popPair p s) := by
  cases p <;> rfl

@[simp] theorem advance_stackTop (s : State) (len : Nat) : (s.advance len).stackTop = s.stackTop := by
  simp [State.stackTop]

/-- What a pop leaves: the word at SP in the pair, and SP up by two. -/
theorem popPair_cpu (p : StackPair) (s : State) :
    (popPair p s).cpu = { (s.advance 1).cpu with sp := s.cpu.sp + 2 }.setStackPair p s.stackTop := by
  rw [← advance_stackTop s 1]
  rfl

theorem popPair_completes (p : StackPair) (s : State) :
    Completes (.pop p) s (popPair p s) 1 12 ∧ (popPair p s).cpu.sp = s.cpu.sp + 2 ∧
      QuietFrame (stackPairHalves p) s (popPair p s) := by
  have hcpu := popPair_cpu p s
  refine ⟨⟨exec_pop p s, ?_, rfl⟩, ?_, ?_⟩
  · rw [hcpu, Cpu.setStackPair_pc]
    exact advance_pc s (le_refl 1)
  · rw [hcpu, Cpu.setStackPair_sp]
  · refine quietFrame_of (fun r hr => ?_) (by simp [hcpu]) (by simp [hcpu]) (by simp [hcpu]) (by simp [hcpu])
      (UnitsKept.refl s)
    rw [hcpu, setStackPair_get _ p _ hr]
    cases r <;> rfl

/-! ### Two bus writes, and the push (41 R182, R186, R187) -/

theorem dmaCharge_write8 (s : State) (a b : Word) (v : Byte) : dmaCharge (s.write8 a v) b = dmaCharge s b := by
  obtain ⟨hparams, -⟩ := write8_config s a v
  rw [dmaCharge, dmaCharge, hparams]

section

variable {s t u : State} {a1 a2 : Word} {v1 v2 : Byte}

/-- Two writes leave `run`, but for a wake-up from Stopped. -/
theorem write8_write8_run (h : s.cpu.run ≠ .stopped) :
    ((s.write8 a1 v1).write8 a2 v2).cpu.run = s.cpu.run := by
  have hfirst := write8_run s a1 v1 h
  rw [write8_run _ a2 v2 (hfirst ▸ h), hfirst]

/-- What two writes do depends on the units and the run state alone. -/
theorem write8_write8_congr (hunits : UnitsKept s u) (hrun : u.cpu.run = s.cpu.run) :
    UnitsKept ((s.write8 a1 v1).write8 a2 v2) ((u.write8 a1 v1).write8 a2 v2) ∧
      ((u.write8 a1 v1).write8 a2 v2).cpu.run = ((s.write8 a1 v1).write8 a2 v2).cpu.run := by
  have hfirst := write8_congr hunits a1 v1
  exact ⟨write8_congr hfirst a2 v2, write8_run_congr hfirst (write8_run_congr hunits hrun a1 v1) a2 v2⟩

/-- A state with the units two writes leave, and a CPU that differs in PC and SP and by the wake-up alone. -/
theorem storeFrame2_of {pc sp : Word} (hunits : UnitsKept ((s.write8 a1 v1).write8 a2 v2) t)
    (hcpu : t.cpu = { s.cpu with
      pc := pc, sp := sp, haltBug := false, run := ((s.write8 a1 v1).write8 a2 v2).cpu.run }) :
    StoreFrame2 [] a1 v1 a2 v2 s t := by
  refine ⟨fun r _ => ?_, ?_, ?_, ?_, ?_, fun h => ?_, hunits, fun b hfirst hsecond => ?_⟩
  · rw [State.reg, hcpu]
    cases r <;> rfl
  · rw [hcpu]
  · rw [hcpu]
  · rw [hcpu]
  · rw [hcpu]
  · rw [hcpu, ← write8_write8_run h]
  · calc t.read8 b = ((s.write8 a1 v1).write8 a2 v2).read8 b := read8_congr hunits b
      _ = (s.write8 a1 v1).read8 b := read8_write8_of_not_touches _ v2 hsecond
      _ = s.read8 b := read8_write8_of_not_touches s v1 hfirst

end

/-- LD (nn),SP is a fetch and two writes, so its CPU, units and cost are theirs. -/
theorem ldMemSp_completes (nn : Word) (s : State) :
    Completes (.ldAtNnSP nn) s (ldMemSp nn s) 3 (20 + dmaCharge s nn + dmaCharge s (nn + 1)) ∧
      (ldMemSp nn s).cpu.f = s.cpu.f ∧ (ldMemSp nn s).cpu.sp = s.cpu.sp ∧
      StoreFrame2 [] nn (loByte s.cpu.sp) (nn + 1) (hiByte s.cpu.sp) s (ldMemSp nn s) := by
  obtain ⟨hunits, hrun⟩ := write8_write8_congr (a1 := nn) (v1 := loByte s.cpu.sp) (a2 := nn + 1)
    (v2 := hiByte s.cpu.sp) (unitsKept_advance s 3) rfl
  have hcpu : (ldMemSp nn s).cpu = { s.cpu with
      pc := s.nextPc 3, haltBug := false,
      run := ((s.write8 nn (loByte s.cpu.sp)).write8 (nn + 1) (hiByte s.cpu.sp)).cpu.run } := by
    rw [← hrun]
    refine (write8_cpu _ _ _).trans ?_
    rw [write8_advance_cpu s (by decide)]
    rfl
  refine ⟨⟨rfl, by rw [hcpu], ?_⟩, by rw [hcpu], by rw [hcpu], storeFrame2_of hunits hcpu⟩
  have hcost : (ldMemSp nn s).cost = dmaCharge s nn + dmaCharge s (nn + 1) + 20 := by
    refine congrArg (· + 20) ((write8_cost _ _ _).trans ?_)
    rw [write8_advance_cost, dmaCharge_write8]
    rfl
  omega

/-- After a fetch, a push and any change of PC, `v` is pushed. -/
theorem pushed_of_push16_advance {s t : State} {len : Nat} {v : Word}
    (hunits : UnitsKept ((s.advance len).push16 v) t)
    (hcpu : t.cpu = { ((s.advance len).push16 v).cpu with pc := t.cpu.pc }) : Pushed v s t := by
  obtain ⟨hpush, hpushed, -⟩ := push16_spec (s.advance len) v
  obtain ⟨hwrites, hrun⟩ := write8_write8_congr (a1 := s.cpu.sp - 1) (v1 := hiByte v) (a2 := s.cpu.sp - 2)
    (v2 := loByte v) (unitsKept_advance s len) rfl
  have hstored : t.cpu = { s.cpu with
      pc := t.cpu.pc, sp := s.cpu.sp - 2, haltBug := false,
      run := ((s.write8 (s.cpu.sp - 1) (hiByte v)).write8 (s.cpu.sp - 2) (loByte v)).cpu.run } := by
    refine hcpu.trans ?_
    rw [hpush, ← hrun]
    rfl
  exact ⟨by rw [hstored], storeFrame2_of ((hwrites.trans hpushed).trans hunits) hstored⟩

theorem encode_push (p : StackPair) : encode (.push p) = [opByte 3 (2 * p.code) 5] := by
  cases p <;> rfl

theorem exec_push (p : StackPair) (s : State) : exec (.push p) s = .next (pushPair p s) := by
  cases p <;> rfl

theorem pushPair_completes (p : StackPair) (s : State) :
    Completes (.push p) s (pushPair p s) 1 (16 + pushCharge s) ∧ (pushPair p s).cpu.f = s.cpu.f ∧
      Pushed (s.cpu.getStackPair p) s (pushPair p s) := by
  have hvalue : (s.advance 1).cpu.getStackPair p = s.cpu.getStackPair p := by cases p <;> rfl
  have hstate : pushPair p s = ((s.advance 1).push16 (s.cpu.getStackPair p)).charge 16 := by
    rw [← hvalue]
    rfl
  obtain ⟨hpush, -, hcost⟩ := push16_spec (s.advance 1) (s.cpu.getStackPair p)
  have hexec := exec_push p s
  rw [hstate] at hexec ⊢
  refine ⟨⟨hexec, ?_, ?_⟩, ?_, pushed_of_push16_advance (UnitsKept.refl _) rfl⟩
  · rw [State.charge_cpu, hpush]
    exact advance_pc s (le_refl 1)
  · rw [State.charge_cost, hcost, advance_cost, Nat.zero_add, Nat.add_comm]
    rfl
  · rw [State.charge_cpu, hpush]
    rfl

end Sys2Proof.Machine

namespace Sys2Proof.Proofs

open Sys2Proof.Machine

/-- Settles O42: each form fetches, writes one pair and charges, which `setPair_completes` proves once. -/
theorem pairWrites : Obligations.PairWrites := by
  unfold Obligations.PairWrites
  rintro s i bytes n p v (⟨nn, rfl, rfl, rfl, rfl⟩ | ⟨rfl, rfl, rfl, rfl, rfl⟩ | ⟨rfl, rfl, rfl, rfl⟩ |
    ⟨rfl, rfl, rfl, rfl⟩)
  · exact ⟨encode_ldPairImm p v, setPair_completes (by simp) (exec_ldPairImm p v s)⟩
  · exact ⟨rfl, setPair_completes (le_refl 1) rfl⟩
  · refine ⟨encode_incPair p, setPair_completes (le_refl 1) ?_⟩
    rw [exec_incPair, incPair, advance_pairOf]
    rfl
  · refine ⟨encode_decPair p, setPair_completes (le_refl 1) ?_⟩
    rw [exec_decPair, decPair, advance_pairOf]
    rfl

/-- Settles O43: each form writes a pair and the flags, with the sum and the carries its result function computes. -/
theorem wordSums : Obligations.WordSums := by
  unfold Obligations.WordSums
  refine ⟨fun p => ⟨encode_addHl p, fun s => ?_⟩, fun e => ⟨rfl, rfl, fun s => ⟨?_, ?_⟩⟩⟩
  · have hexec := exec_addHl p s
    rw [addHl, advance_pairOf] at hexec
    obtain ⟨t, hdone, hhl, hf, hsp, hframe⟩ := setPair_setFlags_completes (le_refl 1) hexec
    refine ⟨t, hdone, ?_⟩
    rw [hf, show t.hl = _ from hhl]
    exact ⟨BitVec.toNat_ofNat _ _, rfl, rfl, decide_eq_true_iff, decide_eq_true_iff, hsp (by decide), hframe⟩
  · obtain ⟨t, hdone, hsum, hf, -, hframe⟩ :=
      setPair_setFlags_completes (i := .addSPE e) (s := s) (len := 2) (p := .sp) (by decide) rfl
    refine ⟨t, hdone, ?_, hframe⟩
    rw [hf, show t.cpu.sp = _ from hsum]
    exact addSpResult_effect s.cpu.sp e
  · obtain ⟨t, hdone, hsum, hf, hsp, hframe⟩ :=
      setPair_setFlags_completes (i := .ldHLSPE e) (s := s) (len := 2) (p := .hl) (by decide) rfl
    refine ⟨t, hdone, ?_, hsp (by decide), hframe⟩
    rw [hf, show t.hl = _ from hsum]
    exact addSpResult_effect s.cpu.sp e

/-- Settles O44: each form is two bus writes after the fetch, whose frame `storeFrame2_of` gives. -/
theorem wordStores : Obligations.WordStores := by
  unfold Obligations.WordStores
  refine ⟨fun nn => ⟨rfl, fun s => ⟨_, ldMemSp_completes nn s⟩⟩, fun p => ⟨encode_push p, fun s => ?_⟩⟩
  obtain ⟨hdone, hf, hpushed⟩ := pushPair_completes p s
  exact ⟨_, _, hdone, hf, by cases p <;> rfl, hpushed⟩

/-- Settles O45: the popped word is written to the pair's halves, for AF through F's four flags. -/
theorem pops : Obligations.Pops := by
  unfold Obligations.Pops
  refine fun p => ⟨encode_pop p, fun s => ⟨popPair p s, ?_⟩⟩
  obtain ⟨hdone, hsp, hframe⟩ := popPair_completes p s
  refine ⟨hdone, hsp, ?_, hframe⟩
  simp only [State.reg, popPair_cpu]
  cases p
  case bc | de | hl => exact ⟨pair_hi_lo s.stackTop, rfl⟩
  case af => exact ⟨rfl, Flags.toByte_ofByte (loByte s.stackTop), rfl, rfl, rfl, rfl⟩

end Sys2Proof.Proofs
end

section
/-! SUPPORT. The 8-bit arithmetic and logic (42 R196-R231): what an instruction that writes a register and the flags
leaves, what one that updates the byte at HL leaves, the effect of each result function, the operation each
instruction runs, and DAA after a sum or difference of decimal digits. -/

namespace Sys2Proof.Machine

/-! ### The shapes -/

/-- An instruction that fetches, writes `v` to the register `r` and `f` to the flags and charges `n` completes, and
changes nothing else. -/
theorem setReg_setFlags_completes {i : Instr} {s : State} {len n : Nat} {r : Reg8} {v : Byte} {f : Flags}
    (hlen : 1 ≤ len) (hexec : exec i s = .next ((((s.advance len).setReg r v).setFlags f).charge n)) :
    ∃ t, Completes i s t len n ∧ t.reg r = v ∧ t.cpu.f = f ∧ t.cpu.sp = s.cpu.sp ∧ QuietFrame [r] s t := by
  refine ⟨_, ⟨hexec, ?_, ?_⟩, ?_, rfl, ?_, ?_⟩
  · simp [advance_pc s hlen]
  · simp
  · exact (setFlags_reg _ f r).trans (Cpu.get_set_same _ r v)
  · simp
  · refine quietFrame_of (fun q hq => ?_) (by simp) (by simp) (by simp) (by simp) (UnitsKept.refl s)
    exact (setFlags_reg _ f q).trans
      ((Cpu.get_set_other _ v (List.ne_of_not_mem_cons hq)).trans (advance_get s len q))

/-- An instruction that fetches, sets A and the flags to `result` and charges `n` adjusts them by what `result` does
(42 R196). -/
theorem adjustsAcc_of {i : Instr} {bytes : List Byte} {n : Nat} {R : State → Byte → Flags → Prop}
    (result : State → Byte × Flags) (hencode : encode i = bytes) (hlen : 1 ≤ bytes.length)
    (hexec : ∀ s, exec i s = .next (((s.advance bytes.length).setAcc (result s)).charge n))
    (heffect : ∀ s, R s (result s).1 (result s).2) : AdjustsAcc i bytes n R := by
  refine ⟨hencode, fun s => ?_⟩
  obtain ⟨t, hdone, ha, hf, hsp, hframe⟩ := setReg_setFlags_completes hlen (hexec s)
  refine ⟨t, hdone, ?_, hsp, hframe⟩
  rw [ha, hf]
  exact heffect s

/-- An instruction that fetches, sets the register `r` and the flags to the `result` of their old values and charges
`n` updates them by what `result` does. -/
theorem updatesReg_of {i : Instr} {bytes : List Byte} {n : Nat} {r : Reg8}
    {R : Byte → Flags → Byte → Flags → Prop} (result : Byte → Flags → Byte × Flags) (hencode : encode i = bytes) (hlen : 1 ≤ bytes.length)
    (hexec : ∀ s, exec i s = .next ((((s.advance bytes.length).setReg r (result (s.reg r) s.cpu.f).1).setFlags
      (result (s.reg r) s.cpu.f).2).charge n))
    (heffect : ∀ v f, R v f (result v f).1 (result v f).2) : UpdatesReg i bytes n r R := by
  refine ⟨hencode, fun s => ?_⟩
  obtain ⟨t, hdone, hreg, hf, hsp, hframe⟩ := setReg_setFlags_completes hlen (hexec s)
  refine ⟨t, hdone, ?_, hsp, hframe⟩
  rw [hreg, hf]
  exact heffect _ _

/-- An instruction that fetches, writes at HL the `result` of the byte read there and of the old flags, sets the flags
and charges `n` updates that byte by what `result` does. -/
theorem updatesMemory_of {i : Instr} {bytes : List Byte} {n : Nat} {R : Byte → Flags → Byte → Flags → Prop}
    (result : Byte → Flags → Byte × Flags) (hencode : encode i = bytes) (hlen : 1 ≤ bytes.length)
    (hexec : ∀ s, exec i s = .next ((((s.advance bytes.length).write8 s.hl (result (s.read8 s.hl) s.cpu.f).1).setFlags
      (result (s.read8 s.hl) s.cpu.f).2).charge n))
    (heffect : ∀ v f, R v f (result v f).1 (result v f).2) : UpdatesMemory i bytes n R := by
  refine ⟨hencode, fun s => ⟨_, (result (s.read8 s.hl) s.cpu.f).1, ⟨hexec s, ?_, ?_⟩, heffect _ _, ?_, ?_⟩⟩
  all_goals have hcpu := write8_advance_cpu s hlen s.hl (result (s.read8 s.hl) s.cpu.f).1
  · rw [State.charge_cpu, State.setFlags_cpu, hcpu]
  · rw [State.charge_cost, State.setFlags_cost, write8_advance_cost, Nat.add_comm]
  · rw [State.charge_cpu, State.setFlags_cpu, hcpu]
  · refine storeFrame_write8_advance bytes.length (UnitsKept.refl _) ?_ ?_ ?_ rfl fun r _ => ?_
    all_goals rw [State.charge_cpu, State.setFlags_cpu, hcpu]
    cases r <;> rfl

/-! ### The effect of each result function (42 R197-R199, R224-R228) -/

theorem add8_effect (a b : Byte) (k : Bool) : SumEffect a b k (add8 a b k).1 (add8 a b k).2 :=
  ⟨BitVec.toNat_ofNat _ _, decide_eq_true_iff, rfl, decide_eq_true_iff, decide_eq_true_iff⟩

theorem sub8_effect (a b : Byte) (k : Bool) : DiffEffect a b k (sub8 a b k).1 (sub8 a b k).2 := by
  refine ⟨?_, decide_eq_true_iff, rfl, decide_eq_true_iff.trans ?_, decide_eq_true_iff.trans ?_⟩
  · rw [sub8, BitVec.toNat_ofInt]
    omega
  · omega
  · omega

theorem and8_effect (a b : Byte) : LogicEffect (a &&& b) true (and8 a b).1 (and8 a b).2 :=
  ⟨rfl, decide_eq_true_iff, rfl, rfl, rfl⟩

theorem xor8_effect (a b : Byte) : LogicEffect (a ^^^ b) false (xor8 a b).1 (xor8 a b).2 :=
  ⟨rfl, decide_eq_true_iff, rfl, rfl, rfl⟩

theorem or8_effect (a b : Byte) : LogicEffect (a ||| b) false (or8 a b).1 (or8 a b).2 :=
  ⟨rfl, decide_eq_true_iff, rfl, rfl, rfl⟩

theorem aluResult_effect (op : AluOp) (a v : Byte) (cy : Bool) :
    AluEffect op a v cy (aluResult op a v cy).1 (aluResult op a v cy).2 := by
  cases op
  case add => exact add8_effect a v false
  case adc => exact add8_effect a v cy
  case sub => exact sub8_effect a v false
  case sbc => exact sub8_effect a v cy
  case and => exact and8_effect a v
  case xor => exact xor8_effect a v
  case or => exact or8_effect a v
  case cp => exact ⟨rfl, _, sub8_effect a v false⟩

/-- The low nibble as a remainder (00 R8). -/
theorem toNat_and_0F (v : Byte) : (v &&& 0x0F).toNat = v.toNat % 16 := by
  rw [BitVec.toNat_and]
  exact Nat.and_two_pow_sub_one_eq_mod v.toNat 4

theorem inc8_effect (old : Byte) (f : Flags) : IncEffect old f (inc8 old f).1 (inc8 old f).2 := by
  refine ⟨BitVec.toNat_add _ _, decide_eq_true_iff, rfl, decide_eq_true_iff.trans ?_, rfl⟩
  rw [← BitVec.toNat_inj, toNat_and_0F]
  rfl

theorem dec8_effect (old : Byte) (f : Flags) : DecEffect old f (dec8 old f).1 (dec8 old f).2 := by
  refine ⟨?_, decide_eq_true_iff, rfl, decide_eq_true_iff.trans ?_, rfl⟩
  · rw [dec8, BitVec.toNat_sub, Nat.add_comm]
    rfl
  · rw [← BitVec.toNat_inj, toNat_and_0F]
    rfl

/-- DAA has the effect 42 R228 gives it; the byte between its two adjustments is the one `DaaEffect` asks for. -/
theorem daaResult_effect (a : Byte) (f : Flags) : DaaEffect a f (daaResult a f).1 (daaResult a f).2 := by
  unfold daaResult DaaEffect
  by_cases hn : f.n = false
  · rw [if_pos hn, if_pos hn]
    have hhi : (f.c || decide (a.toNat > 0x99)) = true ↔ f.c = true ∨ a.toNat > 0x99 := by
      rw [Bool.or_eq_true, decide_eq_true_iff]
    refine ⟨decide_eq_true_iff, rfl, rfl, hhi,
      (if f.c || decide (a.toNat > 0x99) then a + 0x60 else a).toNat, ?_, ?_⟩
    · simp only [hhi, apply_ite BitVec.toNat, BitVec.toNat_add]
      rfl
    · simp only [Bool.or_eq_true, decide_eq_true_iff, toNat_and_0F]
      rw [apply_ite BitVec.toNat, BitVec.toNat_add]
      rfl
  · rw [if_neg hn, if_neg hn]
    refine ⟨decide_eq_true_iff, rfl, rfl, rfl, (if f.c then a - 0x60 else a).toNat, ?_, ?_⟩
    · simp [apply_ite BitVec.toNat, BitVec.toNat_sub, Nat.add_comm]
    · simp [apply_ite BitVec.toNat, BitVec.toNat_sub, Nat.add_comm]

/-! ### The families' instructions and operations -/

theorem encode_aluReg (op : AluOp) (r : Reg8) : encode (.aluReg op r) = [opByte 2 op.code r.code] := by
  cases op <;> cases r <;> rfl

theorem exec_aluReg (op : AluOp) (r : Reg8) (s : State) : exec (.aluReg op r) s = .next (aluReg op r s) := by
  cases op <;> cases r <;> rfl

theorem encode_aluMem (op : AluOp) : encode (.aluMem op) = [opByte 2 op.code 6] := by
  cases op <;> rfl

theorem exec_aluMem (op : AluOp) (s : State) : exec (.aluMem op) s = .next (aluMem op s) := by
  cases op <;> rfl

theorem encode_aluImm (op : AluOp) (n : Byte) : encode (.aluImm op n) = [opByte 3 op.code 6, n] := by
  cases op <;> rfl

theorem exec_aluImm (op : AluOp) (n : Byte) (s : State) : exec (.aluImm op n) s = .next (aluImm op n s) := by
  cases op <;> rfl

theorem encode_incReg (r : Reg8) : encode (.incReg r) = [opByte 0 r.code 4] := by
  cases r <;> rfl

theorem exec_incReg (r : Reg8) (s : State) : exec (.incReg r) s = .next (incReg r s) := by
  cases r <;> rfl

theorem encode_decReg (r : Reg8) : encode (.decReg r) = [opByte 0 r.code 5] := by
  cases r <;> rfl

theorem exec_decReg (r : Reg8) (s : State) : exec (.decReg r) s = .next (decReg r s) := by
  cases r <;> rfl

/-! ### The carries (42 R197, R198) -/

theorem add8_fst (a b : Byte) (k : Bool) : (add8 a b k).1 = a + b + (BitVec.ofBool k).setWidth 8 := by
  apply BitVec.eq_of_toNat_eq
  simp only [add8, BitVec.toNat_ofNat, BitVec.toNat_add, BitVec.toNat_setWidth, BitVec.toNat_ofBool]
  omega

/-- A difference is the sum with the complement, and its half borrow the complement of that sum's half carry. -/
theorem sub8_eq_add8_not (a b : Byte) (k : Bool) :
    (sub8 a b k).1 = (add8 a (~~~b) (!k)).1 ∧ (sub8 a b k).2.h = !(add8 a (~~~b) (!k)).2.h := by
  have hb := b.isLt
  have hk : (!k).toNat + k.toNat = 1 := by cases k <;> rfl
  obtain ⟨hr, -, -, hh, -⟩ := sub8_effect a b k
  obtain ⟨hr', -, -, hh', -⟩ := add8_effect a (~~~b) (!k)
  rw [BitVec.toNat_not] at hr' hh'
  constructor
  · apply BitVec.eq_of_toNat_eq
    omega
  · rw [Bool.eq_not, Ne, Bool.eq_iff_iff, hh, hh']
    omega

/-- The carry into bit 4 is the exclusive or of that bit of the operands and the sum. -/
theorem add8_h (a b : Byte) (k : Bool) : (add8 a b k).2.h = bitOf (a ^^^ b ^^^ (add8 a b k).1) 4 := by
  have hcarry : (add8 a b k).2.h = BitVec.carry 4 a b k := rfl
  rw [hcarry, add8_fst, bitOf, BitVec.getLsbD_xor, BitVec.getLsbD_xor, BitVec.getLsbD_add_add_bool (by decide)]
  cases a.getLsbD 4 <;> cases b.getLsbD 4 <;> simp

theorem sub8_h (a b : Byte) (k : Bool) : (sub8 a b k).2.h = bitOf (a ^^^ b ^^^ (sub8 a b k).1) 4 := by
  obtain ⟨hr, hh⟩ := sub8_eq_add8_not a b k
  rw [hh, add8_h, ← hr]
  simp [bitOf]

theorem add8_c (a b : Byte) (k : Bool) :
    (add8 a b k).2.c = (a.setWidth 9 + b.setWidth 9 + (BitVec.ofBool k).setWidth 9).getLsbD 8 := by
  have ha := a.isLt
  have hb := b.isLt
  have hk := Bool.toNat_le k
  rw [BitVec.getLsbD_last (w := 9), add8]
  simp only [BitVec.toNat_add, BitVec.toNat_setWidth, BitVec.toNat_ofBool, decide_eq_decide]
  omega

theorem sub8_c (a b : Byte) (k : Bool) :
    (sub8 a b k).2.c = (a.setWidth 9 - b.setWidth 9 - (BitVec.ofBool k).setWidth 9).getLsbD 8 := by
  have ha := a.isLt
  have hb := b.isLt
  have hk := Bool.toNat_le k
  rw [BitVec.getLsbD_last (w := 9), sub8]
  simp only [BitVec.toNat_sub, BitVec.toNat_setWidth, BitVec.toNat_ofBool, decide_eq_decide]
  omega

/-! ### Decimal sums and differences (42 R228) -/

/-- The byte of a number below 100 with one decimal digit in each nibble, as `DaaIsDecimal` writes it. -/
def bcdByte (n : Nat) : Byte := BitVec.ofNat 8 (n / 10 * 16 + n % 10)

theorem bcdByte_toNat {n : Nat} (h : n < 100) : (bcdByte n).toNat = n / 10 * 16 + n % 10 :=
  Nat.mod_eq_of_lt (by omega)

theorem bcdByte_mod_16 {n : Nat} (h : n < 100) : (bcdByte n).toNat % 16 = n % 10 := by
  rw [bcdByte_toNat h]
  omega

/-- A binary sum of digits passes 0x99 exactly where their decimal sum passes 99. -/
theorem digits_exceed_99_iff {tens ones : Nat} (h : ones ≤ 19) :
    16 * tens + ones > 0x99 ↔ 100 ≤ 10 * tens + ones := by
  omega

section

variable {x y : Nat} {k : Bool} {a r : Byte} {f g : Flags} (hx : x < 100) (hy : y < 100)

include hx hy

/-- DAA adds 0x60 where the decimal sum passes 99 and 0x06 where the sum of the ones passes 9. -/
theorem daa_after_sum (hsum : SumEffect (bcdByte x) (bcdByte y) k a f) (hdaa : DaaEffect a f r g) :
    r = bcdByte ((x + y + k.toNat) % 100) ∧ (g.c = true ↔ 100 ≤ x + y + k.toNat) := by
  have hk := Bool.toNat_le k
  obtain ⟨ha, -, hn, hh, hc⟩ := hsum
  obtain ⟨-, -, -, hadjust⟩ := hdaa
  rw [if_pos hn] at hadjust
  obtain ⟨hgc, m, hm, hr⟩ := hadjust
  rw [bcdByte_mod_16 hx, bcdByte_mod_16 hy] at hh
  rw [bcdByte_toNat hx, bcdByte_toNat hy] at ha hc
  have hhigh : f.c = true ∨ a.toNat > 0x99 ↔ 100 ≤ x + y + k.toNat := by
    have hdigits := digits_exceed_99_iff (tens := x / 10 + y / 10) (ones := x % 10 + y % 10 + k.toNat) (by omega)
    rw [hc]
    omega
  simp only [hhigh] at hgc hm
  have hlow : f.h = true ∨ m % 16 > 9 ↔ 10 ≤ x % 10 + y % 10 + k.toNat := by
    rw [hh]
    split at hm <;> omega
  simp only [hlow] at hr
  refine ⟨BitVec.eq_of_toNat_eq ?_, hgc⟩
  rw [bcdByte_toNat (Nat.mod_lt _ (by decide))]
  split at hm <;> split at hr <;> omega

/-- DAA subtracts 0x60 where the difference borrows and 0x06 where the ones do. -/
theorem daa_after_diff (hdiff : DiffEffect (bcdByte x) (bcdByte y) k a f) (hdaa : DaaEffect a f r g) :
    r = bcdByte ((x + 200 - y - k.toNat) % 100) ∧ (g.c = true ↔ x < y + k.toNat) := by
  have hk := Bool.toNat_le k
  obtain ⟨ha, -, hn, hh, hc⟩ := hdiff
  obtain ⟨-, -, -, hadjust⟩ := hdaa
  rw [if_neg (by simp [hn])] at hadjust
  obtain ⟨hgc, m, hm, hr⟩ := hadjust
  rw [bcdByte_mod_16 hx, bcdByte_mod_16 hy] at hh
  rw [bcdByte_toNat hx, bcdByte_toNat hy] at ha hc
  have hborrow : f.c = true ↔ x < y + k.toNat := by
    rw [hc]
    omega
  have hlow : f.h = true ↔ x % 10 < y % 10 + k.toNat := by
    rw [hh]
  simp only [hborrow] at hm
  simp only [hlow] at hr
  refine ⟨BitVec.eq_of_toNat_eq ?_, hgc ▸ hborrow⟩
  rw [bcdByte_toNat (Nat.mod_lt _ (by decide))]
  split at hm <;> split at hr <;> omega

end

end Sys2Proof.Machine

namespace Sys2Proof.Proofs

open Sys2Proof.Machine

/-- Settles O46: each form sets A and the flags to `aluResult`, whose effect `aluResult_effect` gives. -/
theorem aluOnRegisters : Obligations.AluOnRegisters := by
  unfold Obligations.AluOnRegisters
  refine fun op r => adjustsAcc_of (fun s => aluResult op (s.reg .a) (s.reg r) s.cpu.f.c) (encode_aluReg op r)
    (le_refl 1) (fun s => ?_) fun s => aluResult_effect op _ _ _
  rw [exec_aluReg, aluReg, advance_reg, advance_reg]
  rfl

/-- Settles O47: as O46, on the byte at HL, which the fetch leaves as it was. -/
theorem aluOnMemory : Obligations.AluOnMemory := by
  unfold Obligations.AluOnMemory
  refine fun op => adjustsAcc_of (fun s => aluResult op (s.reg .a) (s.read8 s.hl) s.cpu.f.c) (encode_aluMem op)
    (le_refl 1) (fun s => ?_) fun s => aluResult_effect op _ _ _
  rw [exec_aluMem, aluMem, advance_reg, advance_hl, advance_read8]
  rfl

/-- Settles O48: as O46, on the operand byte. -/
theorem aluOnImmediates : Obligations.AluOnImmediates := by
  unfold Obligations.AluOnImmediates
  refine fun op n => adjustsAcc_of (fun s => aluResult op (s.reg .a) n s.cpu.f.c) (encode_aluImm op n)
    (by simp) (fun s => ?_) fun s => aluResult_effect op _ _ _
  rw [exec_aluImm, aluImm, advance_reg]
  rfl

/-- Settles O49: one shape holds INC and DEC of a register, another those at HL; the effects are those of `inc8` and
`dec8`. -/
theorem byteIncDec : Obligations.ByteIncDec := by
  unfold Obligations.ByteIncDec
  refine ⟨fun r => ⟨updatesReg_of inc8 (encode_incReg r) (le_refl 1) (fun s => ?_) inc8_effect,
      updatesReg_of dec8 (encode_decReg r) (le_refl 1) (fun s => ?_) dec8_effect⟩,
    updatesMemory_of inc8 rfl (by decide) (fun s => ?_) inc8_effect,
    updatesMemory_of dec8 rfl (by decide) (fun s => ?_) dec8_effect⟩
  · rw [exec_incReg, incReg, advance_reg]
    rfl
  · rw [exec_decReg, decReg, advance_reg]
    rfl
  · rw [← advance_read8 s 1]
    rfl
  · rw [← advance_read8 s 1]
    rfl

/-- Settles O50: each sets A and the flags, SCF and CCF A to itself; DAA's effect is `daaResult_effect`. -/
theorem accumulatorAdjusts : Obligations.AccumulatorAdjusts := by
  unfold Obligations.AccumulatorAdjusts
  exact ⟨adjustsAcc_of (fun s => daaResult (s.reg .a) s.cpu.f) rfl (by decide) (fun s => rfl)
      fun s => daaResult_effect _ _,
    adjustsAcc_of (fun s => cplResult (s.reg .a) s.cpu.f) rfl (by decide) (fun s => rfl) fun s => ⟨rfl, rfl⟩,
    adjustsAcc_of (fun s => (s.reg .a, scfFlags s.cpu.f)) rfl (by decide) (fun s => rfl) fun s => ⟨rfl, rfl⟩,
    adjustsAcc_of (fun s => (s.reg .a, ccfFlags s.cpu.f)) rfl (by decide) (fun s => rfl) fun s => ⟨rfl, rfl⟩⟩

/-- Settles O51: Hf is a carry into bit 4, of the sum with the complement for a difference; Cy is the last of the nine
bits. -/
theorem carriesAreSumBits : Obligations.CarriesAreSumBits := by
  unfold Obligations.CarriesAreSumBits
  exact fun a b k => ⟨add8_h a b k, add8_c a b k, sub8_h a b k, sub8_c a b k⟩

/-- Settles O52: `daa_after_sum` and `daa_after_diff`, at the effects of the sum, the difference and DAA. -/
theorem daaIsDecimal : Obligations.DaaIsDecimal := by
  unfold Obligations.DaaIsDecimal
  intro x y k hx hy
  obtain ⟨hsum, hcarry⟩ := daa_after_sum hx hy (add8_effect (bcdByte x) (bcdByte y) k) (daaResult_effect _ _)
  obtain ⟨hdiff, hborrow⟩ := daa_after_diff hx hy (sub8_effect (bcdByte x) (bcdByte y) k) (daaResult_effect _ _)
  exact ⟨hsum, hcarry, hdiff, hborrow⟩

end Sys2Proof.Proofs
end

section
/-! SUPPORT. The rotates, shifts and SWAP (44 R239-R259): each result bit by bit, the effect and the flags of the two
result functions, and the operation each instruction runs. -/

namespace Sys2Proof.Machine

/-! ### The results bit by bit (44 R239) -/

theorem bitOf_bitAt (c : Bool) {i j : Nat} (hi : i < 8) : bitOf (bitAt c j) i = (c && decide (i = j)) := by
  cases c
  · simp [bitOf, bitAt]
  · refine (BitVec.getLsbD_twoPow j i).trans ?_
    by_cases hij : i = j
    · simp [← hij, hi]
    · simp [hij, Ne.symm hij]

/-- A byte moved left by one place with `c` moved in. -/
theorem bitOf_shiftLeft_one_or (v : Byte) (c : Bool) {i : Nat} (hi : i < 8) :
    bitOf ((v <<< 1) ||| bitAt c 0) i = if i = 0 then c else bitOf v (i - 1) := by
  have hin := bitOf_bitAt c (j := 0) hi
  unfold bitOf at hin ⊢
  rw [BitVec.getLsbD_or, BitVec.getLsbD_shiftLeft, hin]
  by_cases h0 : i = 0 <;> simp [h0, hi]

/-- A byte moved right by one place with `c` moved in. -/
theorem bitOf_shiftRight_one_or (v : Byte) (c : Bool) {i : Nat} (hi : i < 8) :
    bitOf ((v >>> 1) ||| bitAt c 7) i = if i = 7 then c else bitOf v (i + 1) := by
  have hin := bitOf_bitAt c (j := 7) hi
  unfold bitOf at hin ⊢
  rw [BitVec.getLsbD_or, BitVec.getLsbD_ushiftRight, hin, Nat.add_comm]
  by_cases h7 : i = 7 <;> simp [h7]

/-- Bit 7 in its place, as SRA keeps it. -/
theorem and_0x80_eq_bitAt (v : Byte) : v &&& 0x80 = bitAt (bitOf v 7) 7 := by
  revert v
  decide

theorem bitOf_swap (v : Byte) {i : Nat} (hi : i < 8) :
    bitOf (((v &&& 0x0F) <<< 4) ||| (v >>> 4)) i = bitOf v ((i + 4) % 8) := by
  have hmask : (v &&& 0x0F) <<< 4 = v <<< 4 := by
    revert v
    decide
  rw [hmask, bitOf, BitVec.getLsbD_or, BitVec.getLsbD_shiftLeft, BitVec.getLsbD_ushiftRight]
  by_cases hlo : i < 4
  · have hmod : (i + 4) % 8 = 4 + i := by omega
    simp [hmod, hlo, hi, bitOf]
  · have hmod : (i + 4) % 8 = i - 4 := by omega
    have hout : v.getLsbD (4 + i) = false := BitVec.getLsbD_of_ge v _ (by omega)
    simp [hmod, hlo, hi, hout, bitOf]

/-- `Rot` has the effect 44 R239 gives it: all operations but SWAP move by one place, each with its own bit
moved in. -/
theorem rot8_effect (op : RotOp) (v : Byte) (cy : Bool) : RotEffect op v cy (rot8 op v cy).1 (rot8 op v cy).2 := by
  cases op <;> refine ⟨fun i hi => ?_, rfl⟩
  case rlc =>
    refine (bitOf_shiftLeft_one_or v _ hi).trans ?_
    split <;> exact congrArg (bitOf v) (by omega)
  case rrc =>
    refine (bitOf_shiftRight_one_or v _ hi).trans ?_
    split <;> exact congrArg (bitOf v) (by omega)
  case rl => exact bitOf_shiftLeft_one_or v cy hi
  case rr => exact bitOf_shiftRight_one_or v cy hi
  case sla =>
    rw [← bitOf_shiftLeft_one_or v false hi]
    simp [rot8, bitAt]
  case srl =>
    rw [← bitOf_shiftRight_one_or v false hi]
    simp [rot8, bitAt]
  case sra =>
    rw [← bitOf_shiftRight_one_or v (bitOf v 7) hi, ← and_0x80_eq_bitAt]
    rfl
  case swap => exact bitOf_swap v hi

/-- The CB forms set Z from the result (44 R239). -/
theorem rotResult_effect (op : RotOp) (v : Byte) (cy : Bool) :
    ∃ co, RotEffect op v cy (rotResult op v cy).1 co ∧
      RotFlags ((rotResult op v cy).1 = 0) co (rotResult op v cy).2 :=
  ⟨_, rot8_effect op v cy, decide_eq_true_iff, rfl, rfl, rfl⟩

/-- The accumulator forms clear Z (44 R240-R243). -/
theorem rotAccResult_effect (op : RotOp) (v : Byte) (cy : Bool) :
    ∃ co, RotEffect op v cy (rotAccResult op v cy).1 co ∧ RotFlags False co (rotAccResult op v cy).2 :=
  ⟨_, rot8_effect op v cy, Bool.false_eq_true.to_iff, rfl, rfl, rfl⟩

/-! ### The families' instructions and operations -/

theorem encode_rotReg (op : RotOp) (r : Reg8) : encode (.rotReg op r) = [0xCB, opByte 0 op.code r.code] := by
  cases op <;> cases r <;> rfl

theorem exec_rotReg (op : RotOp) (r : Reg8) (s : State) : exec (.rotReg op r) s = .next (rotReg op r s) := by
  cases op <;> cases r <;> rfl

theorem encode_rotMem (op : RotOp) : encode (.rotMem op) = [0xCB, opByte 0 op.code 6] := by
  cases op <;> rfl

theorem exec_rotMem (op : RotOp) (s : State) : exec (.rotMem op) s = .next (rotMem op s) := by
  cases op <;> rfl

/-- An instruction that rotates A by `op` sets A and the flags to `rotAccResult` of A and the old carry. -/
theorem adjustsAcc_rotAcc {i : Instr} {byte : Byte} {op : RotOp} (hencode : encode i = [byte])
    (hexec : ∀ s, exec i s = .next (rotAcc op s)) :
    AdjustsAcc i [byte] 4
      (fun s a f => ∃ co, RotEffect op (s.reg .a) s.cpu.f.c a co ∧ RotFlags False co f) :=
  adjustsAcc_of (fun s => rotAccResult op (s.reg .a) s.cpu.f.c) hencode (le_refl 1) hexec
    fun _ => rotAccResult_effect op _ _

end Sys2Proof.Machine

namespace Sys2Proof.Proofs

open Sys2Proof.Machine

/-- Settles O53: `adjustsAcc_rotAcc` for the accumulator's four; the CB forms set the register and the flags to
`rotResult`, whose effect `rotResult_effect` gives. -/
theorem registerRotates : Obligations.RegisterRotates := by
  unfold Obligations.RegisterRotates
  constructor
  · intro i byte op h
    simp only [List.mem_cons, List.not_mem_nil, or_false] at h
    rcases h with ⟨rfl, rfl, rfl⟩ | ⟨rfl, rfl, rfl⟩ | ⟨rfl, rfl, rfl⟩ | ⟨rfl, rfl, rfl⟩ <;>
      exact adjustsAcc_rotAcc rfl fun _ => rfl
  · refine fun op r => updatesReg_of (fun v f => rotResult op v f.c) (encode_rotReg op r) (by simp) (fun s => ?_)
      fun v f => rotResult_effect op v f.c
    rw [exec_rotReg, rotReg, advance_reg]
    rfl

/-- Settles O54: as the CB forms of O53, on the byte at HL, which the fetch leaves as it was. -/
theorem memoryRotates : Obligations.MemoryRotates := by
  unfold Obligations.MemoryRotates
  refine fun op => updatesMemory_of (fun v f => rotResult op v f.c) (encode_rotMem op) (by simp) (fun s => ?_)
    fun v f => rotResult_effect op v f.c
  rw [exec_rotMem, rotMem, advance_hl, advance_read8]
  rfl

end Sys2Proof.Proofs
end

section
/-! SUPPORT. The single-bit operations (45 R260-R265): what an instruction that writes the flags alone leaves, one that
keeps them, RES and SET bit by bit, and the operation each instruction runs. -/

namespace Sys2Proof.Machine

/-! ### The shapes -/

theorem setFlags_self {s : State} {f : Flags} (h : s.cpu.f = f) : s.setFlags f = s := by
  subst h
  rfl

/-- An instruction that fetches, writes `f` to the flags and charges `n` completes and changes nothing else: it
writes SP with its own value, and SP is made of no 8-bit register. -/
theorem setFlags_completes {i : Instr} {s : State} {len n : Nat} {f : Flags} (hlen : 1 ≤ len)
    (hexec : exec i s = .next (((s.advance len).setFlags f).charge n)) :
    ∃ t, Completes i s t len n ∧ t.cpu.f = f ∧ t.cpu.sp = s.cpu.sp ∧ QuietFrame [] s t := by
  obtain ⟨t, hdone, hsp, hf, -, hframe⟩ :=
    setPair_setFlags_completes (p := .sp) (v := s.cpu.sp) hlen hexec
  exact ⟨t, hdone, hf, hsp, hframe⟩

/-- The frame that allows no register to change is the strongest. -/
theorem QuietFrame.mono_nil {s t : State} (h : QuietFrame [] s t) (w : List Reg8) : QuietFrame w s t := by
  obtain ⟨hregs, hrest⟩ := h
  exact ⟨fun r _ => hregs r List.not_mem_nil, hrest⟩

/-- An instruction that fetches, sets the register `r` to the `result` of its old value and charges `n` updates it by
what `result` does, and keeps the flags. -/
theorem updatesReg_of_keepsFlags {i : Instr} {bytes : List Byte} {n : Nat} {r : Reg8}
    {R : Byte → Flags → Byte → Flags → Prop} (result : Byte → Byte) (hencode : encode i = bytes)
    (hlen : 1 ≤ bytes.length)
    (hexec : ∀ s, exec i s = .next (((s.advance bytes.length).setReg r (result (s.reg r))).charge n))
    (heffect : ∀ v f, R v f (result v) f) : UpdatesReg i bytes n r R := by
  refine updatesReg_of (fun v f => (result v, f)) hencode hlen (fun s => ?_) heffect
  have hf : ((s.advance bytes.length).setReg r (result (s.reg r))).cpu.f = s.cpu.f := Cpu.set_f _ r _
  rw [hexec, setFlags_self hf]

/-- The same for the byte at HL. -/
theorem updatesMemory_of_keepsFlags {i : Instr} {bytes : List Byte} {n : Nat}
    {R : Byte → Flags → Byte → Flags → Prop} (result : Byte → Byte) (hencode : encode i = bytes)
    (hlen : 1 ≤ bytes.length)
    (hexec : ∀ s, exec i s = .next (((s.advance bytes.length).write8 s.hl (result (s.read8 s.hl))).charge n))
    (heffect : ∀ v f, R v f (result v) f) : UpdatesMemory i bytes n R := by
  refine updatesMemory_of (fun v f => (result v, f)) hencode hlen (fun s => ?_) heffect
  have hf : ((s.advance bytes.length).write8 s.hl (result (s.read8 s.hl))).cpu.f = s.cpu.f := by
    rw [write8_advance_cpu s hlen]
  rw [hexec, setFlags_self hf]

/-! ### RES and SET bit by bit (45 R262, R264) -/

/-- The mask of bit `b`, which the model writes as a shift and not by `bitAt`. -/
theorem getLsbD_one_shiftLeft (b : Fin 8) {j : Nat} (hj : j < 8) :
    (1#8 <<< (b : Nat)).getLsbD j = decide (j = (b : Nat)) :=
  bitOf_bitAt true hj

theorem bitOf_resBit (b : Fin 8) (v : Byte) {j : Nat} (hj : j < 8) :
    bitOf (resBit b v) j = if j = (b : Nat) then false else bitOf v j := by
  rw [bitOf, resBit, BitVec.getLsbD_and, BitVec.getLsbD_not, getLsbD_one_shiftLeft b hj]
  by_cases h : j = (b : Nat) <;> simp [h, hj, bitOf]

theorem bitOf_setBit (b : Fin 8) (v : Byte) {j : Nat} (hj : j < 8) :
    bitOf (setBit b v) j = if j = (b : Nat) then true else bitOf v j := by
  rw [bitOf, setBit, BitVec.getLsbD_or, getLsbD_one_shiftLeft b hj]
  by_cases h : j = (b : Nat) <;> simp [h, bitOf]

/-! ### The families' instructions and operations -/

theorem encode_bitReg (b : Fin 8) (r : Reg8) : encode (.bitReg b r) = [0xCB, opByte 1 b r.code] := by
  fin_cases b <;> cases r <;> rfl

theorem exec_bitReg (b : Fin 8) (r : Reg8) (s : State) : exec (.bitReg b r) s = .next (bitReg b r s) := by
  fin_cases b <;> cases r <;> rfl

theorem encode_bitMem (b : Fin 8) : encode (.bitMem b) = [0xCB, opByte 1 b 6] := by
  fin_cases b <;> rfl

theorem exec_bitMem (b : Fin 8) (s : State) : exec (.bitMem b) s = .next (bitMem b s) := by
  fin_cases b <;> rfl

theorem encode_resReg (b : Fin 8) (r : Reg8) : encode (.resReg b r) = [0xCB, opByte 2 b r.code] := by
  fin_cases b <;> cases r <;> rfl

theorem exec_resReg (b : Fin 8) (r : Reg8) (s : State) : exec (.resReg b r) s = .next (resReg b r s) := by
  fin_cases b <;> cases r <;> rfl

theorem encode_resMem (b : Fin 8) : encode (.resMem b) = [0xCB, opByte 2 b 6] := by
  fin_cases b <;> rfl

theorem exec_resMem (b : Fin 8) (s : State) : exec (.resMem b) s = .next (resMem b s) := by
  fin_cases b <;> rfl

theorem encode_setReg (b : Fin 8) (r : Reg8) : encode (.setReg b r) = [0xCB, opByte 3 b r.code] := by
  fin_cases b <;> cases r <;> rfl

theorem exec_setReg (b : Fin 8) (r : Reg8) (s : State) : exec (.setReg b r) s = .next (setReg b r s) := by
  fin_cases b <;> cases r <;> rfl

theorem encode_setMem (b : Fin 8) : encode (.setMem b) = [0xCB, opByte 3 b 6] := by
  fin_cases b <;> rfl

theorem exec_setMem (b : Fin 8) (s : State) : exec (.setMem b) s = .next (setMem b s) := by
  fin_cases b <;> rfl

end Sys2Proof.Machine

namespace Sys2Proof.Proofs

open Sys2Proof.Machine

/-- Settles O55: BIT writes the flags alone, to `bitFlags`, so the operand it reads is kept by the frame. -/
theorem bitTests : Obligations.BitTests := by
  unfold Obligations.BitTests
  refine fun b => ⟨fun r => ⟨encode_bitReg b r, fun s => ?_⟩, encode_bitMem b, fun s => ?_⟩
  · have hexec := exec_bitReg b r s
    rw [bitReg, advance_reg] at hexec
    obtain ⟨t, hdone, hf, hsp, hframe⟩ := setFlags_completes (by simp) hexec
    have hkept : t.reg r = s.reg r := by
      obtain ⟨hregs, -⟩ := hframe
      exact hregs r List.not_mem_nil
    exact ⟨t, hdone, ⟨hkept, hf⟩, hsp, hframe.mono_nil [r]⟩
  · have hexec := exec_bitMem b s
    rw [bitMem, advance_hl, advance_read8] at hexec
    exact setFlags_completes (by simp) hexec

/-- Settles O56: RES and SET write `resBit` and `setBit` of the old byte and no flag; `bitOf_resBit` and
`bitOf_setBit` say which bit those change. -/
theorem bitWrites : Obligations.BitWrites := by
  unfold Obligations.BitWrites
  intro b clears sets
  have hclears (v : Byte) (f : Flags) : clears v f (resBit b v) f := ⟨rfl, fun _ => bitOf_resBit b v⟩
  have hsets (v : Byte) (f : Flags) : sets v f (setBit b v) f := ⟨rfl, fun _ => bitOf_setBit b v⟩
  refine ⟨fun r => ⟨updatesReg_of_keepsFlags _ (encode_resReg b r) (by simp) (fun s => ?_) hclears,
      updatesReg_of_keepsFlags _ (encode_setReg b r) (by simp) (fun s => ?_) hsets⟩,
    updatesMemory_of_keepsFlags _ (encode_resMem b) (by simp) (fun s => ?_) hclears,
    updatesMemory_of_keepsFlags _ (encode_setMem b) (by simp) (fun s => ?_) hsets⟩
  · rw [exec_resReg, resReg, advance_reg]
    rfl
  · rw [exec_setReg, setReg, advance_reg]
    rfl
  · rw [exec_resMem, resMem, advance_hl, advance_read8]
    rfl
  · rw [exec_setMem, setMem, advance_hl, advance_read8]
    rfl

end Sys2Proof.Proofs
end

section
/-! SUPPORT. Jumps, calls and returns (46 R270-R281): what an instruction leaves that changes PC and SP alone, the
jump, the call and the return each as one shape, and the operation each instruction runs. -/

namespace Sys2Proof.Machine

/-! ### PC and SP after the fetch -/

section

variable {i : Instr} {s : State} {len n : Nat}

/-- An instruction that fetches, writes SP and PC and charges `n` changes nothing else. -/
theorem setSp_setPc_completes {sp pc : Word}
    (hexec : exec i s = .next ((((s.advance len).setSp sp).setPc pc).charge n)) :
    ∃ t, exec i s = .next t ∧ t.cpu.pc = pc ∧ t.cost = n ∧ t.cpu.f = s.cpu.f ∧ t.cpu.sp = sp ∧
      QuietFrame [] s t :=
  ⟨_, hexec, rfl, Nat.zero_add n, rfl, rfl,
    quietFrame_of (fun r _ => by cases r <;> rfl) rfl rfl rfl rfl (unitsKept_withCpu s _ _)⟩

/-- A jump leaves SP. -/
theorem setPc_completes {pc : Word} (hexec : exec i s = .next (((s.advance len).setPc pc).charge n)) :
    ∃ t, exec i s = .next t ∧ t.cpu.pc = pc ∧ t.cost = n ∧ t.cpu.f = s.cpu.f ∧ t.cpu.sp = s.cpu.sp ∧
      QuietFrame [] s t :=
  setSp_setPc_completes (sp := s.cpu.sp) hexec

/-- The fetch leaves PC past the instruction, so one that is not taken is a jump there. -/
theorem notTaken_completes (hlen : 1 ≤ len) (hexec : exec i s = .next ((s.advance len).charge n)) :
    ∃ t, exec i s = .next t ∧ t.cpu.pc = s.nextPc len ∧ t.cost = n ∧ t.cpu.f = s.cpu.f ∧
      t.cpu.sp = s.cpu.sp ∧ QuietFrame [] s t := by
  rw [← advance_pc s hlen]
  exact setPc_completes (len := len) hexec

/-- A return's pop is the word at SP (41 R186). -/
theorem popped_setPc_completes
    (hexec : exec i s = .next (((s.advance len).popped.setPc s.stackTop).charge n)) :
    ∃ t, exec i s = .next t ∧ t.cpu.pc = s.stackTop ∧ t.cost = n ∧ t.cpu.f = s.cpu.f ∧
      t.cpu.sp = s.cpu.sp + 2 ∧ QuietFrame [] s t :=
  setSp_setPc_completes hexec

/-- A call is a push after the fetch, then a jump. -/
theorem push16_setPc_completes {v pc : Word}
    (hexec : exec i s = .next ((((s.advance len).push16 v).setPc pc).charge n)) :
    ∃ t, exec i s = .next t ∧ t.cpu.f = s.cpu.f ∧ t.cpu.pc = pc ∧ t.cost = n + pushCharge s ∧ Pushed v s t := by
  obtain ⟨hpush, -, hcost⟩ := push16_spec (s.advance len) v
  have hf : ((s.advance len).push16 v).cpu.f = s.cpu.f := by rw [hpush, advance_f]
  refine ⟨_, hexec, hf, rfl, ?_, pushed_of_push16_advance (UnitsKept.refl _) rfl⟩
  have hcharge : (((s.advance len).push16 v).setPc pc).cost = pushCharge s := hcost.trans (Nat.zero_add _)
  rw [State.charge_cost, hcharge, Nat.add_comm]

end

/-! ### The shapes -/

section

variable {i : Instr} {bytes : List Byte} {taken : State → Bool} {nTaken nNot : Nat}

theorem jumps_of {target : State → Word} (hencode : encode i = bytes) (hlen : 1 ≤ bytes.length)
    (hexec : ∀ s, exec i s = .next (if taken s then ((s.advance bytes.length).setPc (target s)).charge nTaken
      else (s.advance bytes.length).charge nNot)) : Jumps i bytes taken target nTaken nNot := by
  refine ⟨hencode, fun s => ?_⟩
  have hrun := hexec s
  cases htaken : taken s <;> rw [htaken] at hrun
  case true => exact setPc_completes hrun
  case false => exact notTaken_completes hlen hrun

theorem calls_of {target : Word} (hencode : encode i = bytes) (hlen : 1 ≤ bytes.length)
    (hexec : ∀ s, exec i s = .next (if taken s then
        (((s.advance bytes.length).push16 (s.nextPc bytes.length)).setPc target).charge nTaken
      else (s.advance bytes.length).charge nNot)) : Calls i bytes taken target nTaken nNot := by
  refine ⟨hencode, fun s => ?_⟩
  have hrun := hexec s
  cases htaken : taken s <;> rw [htaken] at hrun
  case true => exact push16_setPc_completes hrun
  case false =>
    obtain ⟨t, hnext, hpc, hcost, hf, hsp, hframe⟩ := notTaken_completes hlen hrun
    exact ⟨t, hnext, hf, hpc, hcost, hsp, hframe⟩

theorem returns_of (hencode : encode i = bytes) (hlen : 1 ≤ bytes.length)
    (hexec : ∀ s, exec i s = .next (if taken s then
        ((s.advance bytes.length).popped.setPc s.stackTop).charge nTaken
      else (s.advance bytes.length).charge nNot)) : Returns i bytes taken nTaken nNot := by
  refine ⟨hencode, fun s => ?_⟩
  have hrun := hexec s
  cases htaken : taken s <;> rw [htaken] at hrun
  case true =>
    obtain ⟨t, hnext, hpc, hcost, hf, hsp, hframe⟩ := popped_setPc_completes hrun
    exact ⟨t, hnext, hf, hframe, hpc, hcost, hsp⟩
  case false =>
    obtain ⟨t, hnext, hpc, hcost, hf, hsp, hframe⟩ := notTaken_completes hlen hrun
    exact ⟨t, hnext, hf, hframe, hpc, hcost, hsp⟩

end

/-! ### The operations, by the state before the fetch -/

/-- JR's target, in the integers (46 R274). -/
theorem add_sext16_eq_ofInt (w : Word) (e : Byte) : w + sext16 e = BitVec.ofInt 16 (w.toNat + e.toInt) := by
  rw [BitVec.ofInt_add, BitVec.ofInt_natCast, BitVec.ofNat_toNat, BitVec.setWidth_eq]
  rfl

theorem jumpRel_eq (e : Byte) (s : State) :
    jumpRel e s = ((s.advance 2).setPc (BitVec.ofInt 16 ((s.nextPc 2).toNat + e.toInt))).charge 12 := by
  rw [← add_sext16_eq_ofInt, ← advance_pc s (by decide)]
  rfl

theorem jumpRelIf_eq (cc : Cond) (e : Byte) (s : State) :
    jumpRelIf cc e s = if s.cpu.f.holds cc then
      ((s.advance 2).setPc (BitVec.ofInt 16 ((s.nextPc 2).toNat + e.toInt))).charge 12
    else (s.advance 2).charge 8 := by
  rw [← add_sext16_eq_ofInt, ← advance_pc s (by decide)]
  rfl

theorem callAbs_eq (nn : Word) (s : State) :
    callAbs nn s = (((s.advance 3).push16 (s.nextPc 3)).setPc nn).charge 24 := by
  rw [← advance_pc s (by decide)]
  rfl

theorem callIf_eq (cc : Cond) (nn : Word) (s : State) :
    callIf cc nn s = if s.cpu.f.holds cc then (((s.advance 3).push16 (s.nextPc 3)).setPc nn).charge 24
      else (s.advance 3).charge 12 := by
  rw [← advance_pc s (by decide)]
  rfl

theorem restart_eq (target : Word) (s : State) :
    restart target s = (((s.advance 1).push16 (s.nextPc 1)).setPc target).charge 16 := by
  rw [← advance_pc s (le_refl 1)]
  rfl

theorem returnAbs_eq (s : State) : returnAbs s = ((s.advance 1).popped.setPc s.stackTop).charge 16 := by
  rw [← advance_stackTop s 1]
  rfl

theorem returnIf_eq (cc : Cond) (s : State) :
    returnIf cc s = if s.cpu.f.holds cc then ((s.advance 1).popped.setPc s.stackTop).charge 20
      else (s.advance 1).charge 8 := by
  rw [← advance_stackTop s 1]
  rfl

/-- RETI: as RET, and IME and EI's latch (46 R280). -/
theorem returnEnable_eq (s : State) :
    returnEnable s = { s with
      cost := 16
      cpu := { s.cpu with
        sp := s.cpu.sp + 2, pc := s.stackTop, ime := true, eiPending := false, haltBug := false } } := by
  rw [returnEnable, returnFromInterrupt_spec, advance_stackTop]
  rfl

/-! ### The families' instructions and operations -/

theorem encode_jpCond (cc : Cond) (nn : Word) :
    encode (.jpCond cc nn) = [opByte 3 cc.code 2, loByte nn, hiByte nn] := by
  cases cc <;> rfl

theorem exec_jpCond (cc : Cond) (nn : Word) (s : State) : exec (.jpCond cc nn) s = .next (jumpIf cc nn s) := by
  cases cc <;> rfl

theorem encode_jrCond (cc : Cond) (e : Byte) : encode (.jrCond cc e) = [opByte 0 (4 + cc.code) 0, e] := by
  cases cc <;> rfl

theorem exec_jrCond (cc : Cond) (e : Byte) (s : State) : exec (.jrCond cc e) s = .next (jumpRelIf cc e s) := by
  cases cc <;> rfl

theorem encode_callCond (cc : Cond) (nn : Word) :
    encode (.callCond cc nn) = [opByte 3 cc.code 4, loByte nn, hiByte nn] := by
  cases cc <;> rfl

theorem exec_callCond (cc : Cond) (nn : Word) (s : State) :
    exec (.callCond cc nn) s = .next (callIf cc nn s) := by
  cases cc <;> rfl

theorem encode_retCond (cc : Cond) : encode (.retCond cc) = [opByte 3 cc.code 0] := by
  cases cc <;> rfl

theorem exec_retCond (cc : Cond) (s : State) : exec (.retCond cc) s = .next (returnIf cc s) := by
  cases cc <;> rfl

theorem encode_rst (y : Fin 8) : encode (.rst y) = [opByte 3 y 7] := by
  fin_cases y <;> rfl

theorem exec_rst (y : Fin 8) (s : State) : exec (.rst y) s = .next (restart (BitVec.ofNat 16 (8 * y)) s) := by
  fin_cases y <;> rfl

end Sys2Proof.Machine

namespace Sys2Proof.Proofs

open Sys2Proof.Machine

/-- Settles O58: each form is of the call's shape, whose push and frame `push16_setPc_completes` gives. -/
theorem callsPushTheReturnAddress : Obligations.CallsPushTheReturnAddress := by
  unfold Obligations.CallsPushTheReturnAddress
  refine ⟨fun nn => calls_of rfl (by simp) fun s => congrArg Host.Outcome.next (callAbs_eq nn s),
    fun cc nn => calls_of (encode_callCond cc nn) (by simp) fun s => ?_,
    fun y => calls_of (encode_rst y) (le_refl 1) fun s => ?_⟩
  · rw [exec_callCond, callIf_eq]
    rfl
  · rw [exec_rst, restart_eq]
    rfl

/-- Settles O57: each form is of the jump's shape; JR's target is the sum in the integers. -/
theorem jumpsGoToTheirTargets : Obligations.JumpsGoToTheirTargets := by
  unfold Obligations.JumpsGoToTheirTargets
  refine ⟨fun nn => jumps_of rfl (by simp) fun s => rfl,
    fun cc nn => jumps_of (encode_jpCond cc nn) (by simp) (exec_jpCond cc nn),
    jumps_of rfl (by decide) fun s => rfl,
    fun e => jumps_of rfl (by simp) fun s => congrArg Host.Outcome.next (jumpRel_eq e s),
    fun cc e => jumps_of (encode_jrCond cc e) (by simp) fun s => ?_⟩
  rw [exec_jrCond, jumpRelIf_eq]
  rfl

/-- Settles O59: RET and RET cc are of the return's shape; RETI leaves the state of `returnEnable_eq`. -/
theorem returnsPopTheirAddress : Obligations.ReturnsPopTheirAddress := by
  unfold Obligations.ReturnsPopTheirAddress
  refine ⟨returns_of rfl (by decide) fun s => congrArg Host.Outcome.next (returnAbs_eq s),
    fun cc => returns_of (encode_retCond cc) (le_refl 1) fun s => ?_, rfl, fun s => ?_⟩
  · rw [exec_retCond, returnIf_eq]
    rfl
  · have hexec : exec .reti s = .next _ := congrArg Host.Outcome.next (returnEnable_eq s)
    exact ⟨_, hexec, rfl, rfl, rfl, rfl, rfl, rfl, rfl, rfl, fun r _ => by cases r <;> rfl,
      unitsKept_withCpu s _ 16, read8_congr (unitsKept_withCpu s _ 16)⟩

end Sys2Proof.Proofs
end

section
/-! SUPPORT. CPU control (47 R290-R296): the state each of its operations leaves, written out; which steps leave the
CPU Running, halted, stopped or Faulted; and EI's commit, HALT's wake-up and the absorbing Faulted state from these. -/

namespace Sys2Proof.Machine

variable {s t u : State}

/-! ### The states the operations leave (47 R290-R296) -/

theorem advance_eq (s : State) {len : Nat} (hlen : 1 ≤ len) :
    s.advance len =
      { s with cpu := { s.cpu with pc := s.nextPc len, haltBug := false }, cost := 0 } := by
  rw [← advance_cpu s hlen]
  rfl

theorem disableInterrupts_eq (s : State) :
    disableInterrupts s = { s with
      cpu := { s.cpu with pc := s.nextPc 1, haltBug := false, ime := false, eiPending := false }
      cost := 4 } := by
  rw [disableInterrupts, advance_eq s (le_refl 1)]
  rfl

theorem enableInterrupts_eq (s : State) :
    enableInterrupts s = { s with
      cpu := { s.cpu with pc := s.nextPc 1, haltBug := false, eiPending := true }
      cost := 4 } := by
  rw [enableInterrupts, advance_eq s (le_refl 1)]
  rfl

/-- A write to DIV, of any byte, resets the divider (60 R342). -/
theorem write8_div (s : State) (v : Byte) :
    s.write8 0xFF04 v = s.setTimer (s.timer.resetDiv s.params.timaReloadDelay) := by
  have hr : regionOf 0xFF04 = .io := by decide
  rw [write8_of_region s v hr rfl, writeRaw_io s v hr]
  rfl

/-- STOP's units are those a write to DIV leaves (47 R292). -/
theorem stopCpu_eq (s : State) :
    stopCpu s = { s.write8 0xFF04 0 with
      cpu := { s.cpu with pc := s.nextPc 2, haltBug := false, run := .stopped }
      cost := 4 } := by
  rw [write8_div, stopCpu, advance_eq s (by decide : 1 ≤ 2)]
  rfl

theorem resetDiv_div (delay : Nat) (x : Timer) : (x.resetDiv delay).div = 0 := by
  obtain ⟨tima, wait, h⟩ := resetDiv_kept delay x
  rw [h]

/-- A write to DIV may clock TIMA, and shows nowhere else. -/
theorem touches_div (s : State) {b : Word} (hdiv : b ≠ 0xFF04) (htima : b ≠ 0xFF05) :
    touches s 0xFF04 b = false := by
  have hr : regionOf 0xFF04 = .io := by decide
  have hreg : ioRegAt (offsetFrom 0xFF00 0xFF04) = .div := by decide
  simp only [touches, hr, hreg, hdiv, htima, decide_false, Bool.or_self]

/-- HALT with IME 0, a source requested and P_HALT_BUG: the halt bug is set and the CPU goes on (47 R291). -/
theorem haltCpu_of_bug (h : s.cpu.ime = false ∧ s.requested ≠ 0 ∧ s.params.haltBug = true) :
    haltCpu s = { s with cpu := { s.cpu with pc := s.nextPc 1, haltBug := true }, cost := 4 } := by
  rw [haltCpu, advance_eq s (le_refl 1)]
  exact congrArg (State.charge · 4) (if_pos h)

theorem haltCpu_of_not_bug (h : ¬(s.cpu.ime = false ∧ s.requested ≠ 0 ∧ s.params.haltBug = true)) :
    haltCpu s = { s with
      cpu := { s.cpu with pc := s.nextPc 1, haltBug := false, run := .halted }
      cost := 4 } := by
  rw [haltCpu, advance_eq s (le_refl 1)]
  exact congrArg (State.charge · 4) (if_neg h)

/-! ### The run state and the halt bug after a step (10 R28, R29) -/

/-- No write takes a CPU that is not Stopped to another run state. -/
theorem Built.run_eq (hrun : s.cpu.run ≠ .stopped) (h : Built s t) : t.cpu.run = s.cpu.run := by
  induction h with
  | fetch len => rfl
  | regs c _ _ hc ih => exact hc.trans ih
  | write a v _ ih => exact (write8_run _ a v (ih ▸ hrun)).trans ih
  | charge n _ _ ih => exact ih

theorem push16_run (hrun : s.cpu.run ≠ .stopped) (v : Word) : (s.push16 v).cpu.run = s.cpu.run := by
  obtain ⟨hcpu, -, -⟩ := push16_spec s v
  have hfirst := write8_run s (s.cpu.sp - 1) (hiByte v) hrun
  rw [hcpu]
  exact (write8_run _ _ (loByte v) (hfirst ▸ hrun)).trans hfirst

theorem dispatch_run (hrun : s.cpu.run ≠ .stopped) (k : Nat) : (s.dispatch k).cpu.run = s.cpu.run := by
  unfold State.dispatch
  simp only [State.setCost_cpu, State.setPc_cpu]
  rw [push16_run (by exact hrun)]
  rfl

theorem commitEi_of_faulted {a : Word} {b : Byte} (h : t.cpu.run = .faulted a b) (commit : Bool) :
    t.commitEi commit = t := by
  unfold State.commitEi
  rw [h]

theorem commitEi_of_not_faulted (h : ∀ a b, t.cpu.run ≠ .faulted a b) (commit : Bool) :
    (t.commitEi commit).cpu = { t.cpu with
      ime := t.cpu.ime || (commit && t.cpu.eiPending)
      eiPending := t.cpu.eiPending && !commit } := by
  have hsplit : t.commitEi commit =
      if commit && t.cpu.eiPending then t.setCpu { t.cpu with ime := true, eiPending := false } else t := by
    unfold State.commitEi
    split
    next a b hrun => exact absurd hrun (h a b)
    next => rfl
  rw [hsplit]
  obtain ⟨cpu, -⟩ := t
  obtain ⟨-, -, -, -, -, -, -, -, -, -, ime, ei, -, -⟩ := cpu
  cases commit <;> cases ei <;> simp

theorem commitEi_run (t : State) (commit : Bool) : (t.commitEi commit).cpu.run = t.cpu.run := by
  rw [commitEi_spec]

theorem commitEi_haltBug (t : State) (commit : Bool) : (t.commitEi commit).cpu.haltBug = t.cpu.haltBug := by
  rw [commitEi_spec]

/-- The instruction at PC is illegal only by its opcode byte (30 R131). -/
theorem fetch_illegalByte {b : Byte} (h : s.fetch.illegalByte = some b) :
    b = s.read8 s.cpu.pc ∧ b ∈ illegalOpcodes := by
  rw [State.fetch, illegalByte_decodeWindow] at h
  split at h
  next hmem =>
    cases h
    exact ⟨rfl, hmem⟩
  next => cases h

/-- What a Running CPU's step leaves in `run`: it goes on, it is halted or stopped with no halt bug, or it meets an
illegal byte (47 R291, R292, R296). -/
theorem runCpu_run (hrun : s.cpu.run = .running) (h : runCpu s = .next u) :
    u.cpu.run = .running ∨ (u.cpu.haltBug = false ∧ (u.cpu.run = .halted ∨ u.cpu.run = .stopped)) ∨
      (s.read8 s.cpu.pc ∈ illegalOpcodes ∧ u = s.illegalOpcode (s.read8 s.cpu.pc)) := by
  have hns : s.cpu.run ≠ .stopped := by rw [hrun]; decide
  obtain ⟨k, -, rfl⟩ | ⟨-, h⟩ := runCpu_next_iff.mp h
  · exact .inl ((dispatch_run hns k).trans hrun)
  · obtain ⟨t, ht, rfl⟩ := executeNext_next_iff.mp h
    rw [commitEi_run, commitEi_haltBug]
    obtain hb | ⟨-, rfl⟩ | ⟨-, rfl⟩ | ⟨b, hb, rfl⟩ := exec_shape ht
    · exact .inl ((hb.run_eq hns).trans hrun)
    · by_cases hbug : s.cpu.ime = false ∧ s.requested ≠ 0 ∧ s.params.haltBug = true
      · rw [haltCpu_of_bug hbug]
        exact .inl hrun
      · rw [haltCpu_of_not_bug hbug]
        exact .inr (.inl ⟨rfl, .inl rfl⟩)
    · rw [stopCpu_eq]
      exact .inr (.inl ⟨rfl, .inr rfl⟩)
    · obtain ⟨rfl, hmem⟩ := fetch_illegalByte hb
      exact .inr (.inr ⟨hmem, commitEi_of_faulted rfl _⟩)

/-! ### Faulted (47 R296) -/

theorem exec_of_illegalByte {i : Instr} {b : Byte} (h : i.illegalByte = some b) (s : State) :
    exec i s = .next (s.illegalOpcode b) := by
  unfold Instr.illegalByte at h
  split at h <;> cases h <;> rfl

theorem step_of_faulted {a : Word} {b : Byte} (h : s.cpu.run = .faulted a b) : step s = .next (s.setCost 0) :=
  step_next_iff.mpr ⟨s.setCost 0, cpuStep_next_iff.mpr (.inl ⟨.inr ⟨a, b, h⟩, rfl⟩), rfl⟩

theorem runCpu_of_faulted {a : Word} {b : Byte} (hrun : s.cpu.run = .running) (h : runCpu s = .next u)
    (hu : u.cpu.run = .faulted a b) :
    s.read8 s.cpu.pc ∈ illegalOpcodes ∧ u = s.illegalOpcode (s.read8 s.cpu.pc) := by
  obtain hrun' | ⟨-, hrun' | hrun'⟩ | hillegal := runCpu_run hrun h
  · cases hrun'.symm.trans hu
  · cases hrun'.symm.trans hu
  · cases hrun'.symm.trans hu
  · exact hillegal

/-- The CPU's step enters Faulted by an illegal byte at PC alone; waking from HALT leaves no trace in the state. -/
theorem cpuStep_of_faulted {a : Word} {b : Byte} (hs : ∀ a b, s.cpu.run ≠ .faulted a b) (h : cpuStep s = .next u)
    (hu : u.cpu.run = .faulted a b) :
    s.read8 s.cpu.pc ∈ illegalOpcodes ∧ u = s.illegalOpcode (s.read8 s.cpu.pc) := by
  obtain ⟨-, rfl⟩ | ⟨hrun, -, rfl⟩ | ⟨-, -, h⟩ | ⟨hrun, h⟩ := cpuStep_next_iff.mp h
  · exact absurd hu (hs a b)
  · cases hrun.symm.trans hu
  · obtain ⟨hmem, rfl⟩ := runCpu_of_faulted rfl h hu
    have hread : (s.setRun .running).read8 s.cpu.pc = s.read8 s.cpu.pc := read8_congr (UnitsKept.refl s) _
    exact ⟨hread ▸ hmem, congrArg s.illegalOpcode hread⟩
  · exact runCpu_of_faulted hrun h hu

theorem step_enters_faulted {a : Word} {b : Byte} (hs : ∀ a b, s.cpu.run ≠ .faulted a b) (h : step s = .next t)
    (ht : t.cpu.run = .faulted a b) :
    s.read8 s.cpu.pc ∈ illegalOpcodes ∧ t = s.illegalOpcode (s.read8 s.cpu.pc) := by
  obtain ⟨u, hu, rfl⟩ := step_next_iff.mp h
  obtain ⟨hcpu, -⟩ := tCycles_kept u u.cost
  obtain ⟨hmem, rfl⟩ := cpuStep_of_faulted hs hu (hcpu ▸ ht)
  exact ⟨hmem, rfl⟩

/-! ### Halted (60 R318) -/

theorem step_of_halted_idle (hrun : s.cpu.run = .halted) (h : s.requested = 0) :
    step s = .next ((s.setCost 4).tCycles 4) :=
  step_next_iff.mpr ⟨s.setCost 4, cpuStep_next_iff.mpr (.inr (.inl ⟨hrun, h, rfl⟩)), rfl⟩

theorem step_of_halted_wakes (hrun : s.cpu.run = .halted) (h : s.requested ≠ 0) :
    step s = step (s.setRun .running) := by
  have hcpu : cpuStep s = runCpu (s.setRun .running) := by
    rw [cpuStep, hrun]
    exact if_neg h
  unfold step systemStep
  rw [hcpu]
  rfl

end Sys2Proof.Machine

namespace Sys2Proof.Proofs

open Sys2Proof.Machine

/-- Settles O6: around an instruction the step adds EI's commit, and the ticks leave the CPU. -/
theorem eiTakesEffectOneInstructionLate : Obligations.EiTakesEffectOneInstructionLate := by
  unfold Obligations.EiTakesEffectOneInstructionLate
  intro s t hrun hpending hexec hfault
  have hrunCpu : runCpu s = .next (t.commitEi s.cpu.eiPending) :=
    runCpu_next_iff.mpr (.inr ⟨hpending, executeNext_next_iff.mpr ⟨t, hexec, rfl⟩⟩)
  refine ⟨_, step_next_iff.mpr ⟨_, cpuStep_next_iff.mpr (.inr (.inr (.inr ⟨hrun, hrunCpu⟩))), rfl⟩, ?_⟩
  obtain ⟨hcpu, -⟩ := tCycles_kept (t.commitEi s.cpu.eiPending) (t.commitEi s.cpu.eiPending).cost
  rw [hcpu, commitEi_of_not_faulted hfault]

/-- Settles O9: `haltCpu` by its two cases, and the Halted CPU's step by whether a source is requested. -/
theorem haltAndWakeUp : Obligations.HaltAndWakeUp := by
  unfold Obligations.HaltAndWakeUp
  refine ⟨rfl, fun s => ?_, fun s hrun => ⟨step_of_halted_idle hrun, step_of_halted_wakes hrun⟩⟩
  split
  next hbug =>
    have hexec : exec .halt s = .next _ := congrArg Host.Outcome.next (haltCpu_of_bug hbug)
    exact ⟨_, ⟨hexec, rfl, rfl⟩, ⟨rfl, rfl⟩, rfl, rfl, rfl, rfl, fun r _ => by cases r <;> rfl,
      unitsKept_withCpu s _ 4, read8_congr (unitsKept_withCpu s _ 4)⟩
  next hbug =>
    have hexec : exec .halt s = .next _ := congrArg Host.Outcome.next (haltCpu_of_not_bug hbug)
    exact ⟨_, ⟨hexec, rfl, rfl⟩, ⟨rfl, rfl⟩, rfl, rfl, rfl, rfl, fun r _ => by cases r <;> rfl,
      unitsKept_withCpu s _ 4, read8_congr (unitsKept_withCpu s _ 4)⟩

/-- Settles O17: the illegal instructions' arms, and `step_enters_faulted` for the converse. -/
theorem illegalOpcodeIsTheOnlyFault : Obligations.IllegalOpcodeIsTheOnlyFault := by
  unfold Obligations.IllegalOpcodeIsTheOnlyFault
  refine ⟨fun i byte h => ⟨(encode_of_illegalByte h).1, exec_of_illegalByte h⟩, fun s t a byte h ht hs => ?_,
    fun s a byte h => ⟨step_of_faulted h, ?_⟩⟩
  · obtain ⟨hmem, rfl⟩ := step_enters_faulted hs h ht
    cases ht
    exact ⟨rfl, rfl, hmem, rfl⟩
  · unfold State.readFault
    rw [h]

/-- Settles O60: each operation's state is written out; STOP's reads are those a write to DIV leaves. -/
theorem cpuControl : Obligations.CpuControl := by
  unfold Obligations.CpuControl
  refine ⟨rfl, rfl, rfl, fun b => rfl, fun s => ⟨?_, ?_, ?_, ?_⟩⟩
  · obtain ⟨t, hexec, hpc, hcost, hrest⟩ :=
      notTaken_completes (i := .nop) (s := s) (le_refl 1) (n := 4) rfl
    exact ⟨t, ⟨hexec, hpc, hcost⟩, hrest⟩
  · have hexec : exec .di s = .next _ := congrArg Host.Outcome.next (disableInterrupts_eq s)
    exact ⟨_, ⟨hexec, rfl, rfl⟩, rfl, rfl, rfl, rfl, rfl, rfl, fun r _ => by cases r <;> rfl,
      unitsKept_withCpu s _ 4, read8_congr (unitsKept_withCpu s _ 4)⟩
  · have hexec : exec .ei s = .next _ := congrArg Host.Outcome.next (enableInterrupts_eq s)
    exact ⟨_, ⟨hexec, rfl, rfl⟩, rfl, rfl, rfl, rfl, rfl, rfl, fun r _ => by cases r <;> rfl,
      unitsKept_withCpu s _ 4, read8_congr (unitsKept_withCpu s _ 4)⟩
  · have hexec : exec .stop s = .next _ := congrArg Host.Outcome.next (stopCpu_eq s)
    have hunits := unitsKept_withCpu (s.write8 0xFF04 0)
      { s.cpu with pc := s.nextPc 2, haltBug := false, run := .stopped } 4
    refine ⟨_, ⟨hexec, rfl, rfl⟩, rfl, ?_, hunits, rfl, rfl, rfl, rfl, rfl, fun r _ => by cases r <;> rfl,
      fun b hdiv htima => ?_⟩
    · rw [write8_div]
      exact resetDiv_div _ _
    · rw [read8_congr hunits, read8_write8_of_not_touches s 0 (touches_div s hdiv htima)]

end Sys2Proof.Proofs
end

section
/-! SUPPORT. The machine's invariant. Its four parts outside the CPU (the timer, the PPU, the cartridge and the
memories) are kept by every bus write and every T-cycle, whatever the CPU does; the CPU's own part by the branches of
its step. -/

namespace Sys2Proof.Machine

variable {s t u : State}

/-! ### The CPU (47 R291, R296) -/

theorem Cpu.inv_iff (k : Cpu) :
    k.inv = true ↔ (∀ a b, k.run = .faulted a b → k.pc = a ∧ b ∈ illegalOpcodes) ∧
      (k.haltBug = true → k.run = .running) := by
  unfold Cpu.inv
  rw [Bool.and_eq_true]
  refine and_congr ?_ ?_
  · cases k.run <;> simp [illegalByte_decodeWindow]
  · cases k.haltBug <;> simp

theorem Cpu.inv_of_running {k : Cpu} (h : k.run = .running) : k.inv = true :=
  k.inv_iff.mpr ⟨fun _ _ hf => (nomatch h.symm.trans hf), fun _ => h⟩

theorem Cpu.inv_of_halted_or_stopped {k : Cpu} (hbug : k.haltBug = false)
    (h : k.run = .halted ∨ k.run = .stopped) : k.inv = true := by
  refine k.inv_iff.mpr ⟨fun a b hf => ?_, fun hbug' => ?_⟩
  · rcases h with h | h <;> rw [h] at hf <;> cases hf
  · rw [hbug] at hbug'
    cases hbug'

theorem illegalOpcode_cpu_inv {b : Byte} (h : b ∈ illegalOpcodes) : (s.illegalOpcode b).cpu.inv = true := by
  refine (Cpu.inv_iff _).mpr ⟨fun a b' hf => ?_, fun hbug => ?_⟩
  · cases hf
    exact ⟨rfl, h⟩
  · cases hbug

theorem runCpu_cpu_inv (hrun : s.cpu.run = .running) (h : runCpu s = .next u) : u.cpu.inv = true := by
  obtain hu | ⟨hbug, hu⟩ | ⟨hmem, rfl⟩ := runCpu_run hrun h
  · exact Cpu.inv_of_running hu
  · exact Cpu.inv_of_halted_or_stopped hbug hu
  · exact illegalOpcode_cpu_inv hmem

theorem cpuStep_cpu_inv (hs : s.cpu.inv = true) (h : cpuStep s = .next u) : u.cpu.inv = true := by
  obtain ⟨-, rfl⟩ | ⟨-, -, rfl⟩ | ⟨-, -, h⟩ | ⟨hrun, h⟩ := cpuStep_next_iff.mp h
  · exact hs
  · exact hs
  · exact runCpu_cpu_inv rfl h
  · exact runCpu_cpu_inv hrun h

/-- A joypad change leaves the CPU but for waking it from Stopped (60 R319). -/
theorem changePad_cpu_inv (hs : s.cpu.inv = true) (j : Joypad) : (s.changePad j).cpu.inv = true := by
  by_cases hstill : s.pad.low &&& ~~~j.low = 0
  · rw [changePad_of_still hstill]
    exact hs
  · rw [changePad_of_fall hstill]
    by_cases hrun : s.cpu.run = .stopped
    · exact Cpu.inv_of_running (if_pos hrun)
    · simp only [if_neg hrun]
      exact hs

/-! ### The timer (10 R52; 60 R341-R344) -/

section

variable {delay : Nat} {x : Timer}

/-- A TIMA increment leaves the countdown or starts it at the delay. -/
theorem incTima_reloadWait_le (h : x.reloadWait ≤ delay) : (x.incTima delay).reloadWait ≤ delay := by
  unfold Timer.incTima
  split
  · exact le_refl delay
  · exact h

theorem setDiv_reloadWait_le (h : x.reloadWait ≤ delay) (d : Word) : (x.setDiv delay d).reloadWait ≤ delay := by
  unfold Timer.setDiv
  simp only
  split
  · exact incTima_reloadWait_le h
  · exact h

theorem writeTac_reloadWait_le (h : x.reloadWait ≤ delay) (v : Byte) :
    (x.writeTac delay v).reloadWait ≤ delay := by
  unfold Timer.writeTac
  simp only
  split
  · exact incTima_reloadWait_le h
  · exact h

theorem countReload_reloadWait_le (x : Timer) : x.countReload.1.reloadWait ≤ x.reloadWait := by
  unfold Timer.countReload
  split
  · exact le_refl _
  · split
    · exact Nat.zero_le _
    · exact Nat.sub_le _ _

theorem tick_reloadWait_le (h : x.reloadWait ≤ delay) : (x.tick delay).1.reloadWait ≤ delay :=
  setDiv_reloadWait_le ((countReload_reloadWait_le x).trans h) _

end

theorem Timer.inv_iff {p : Params} {x : Timer} : x.inv p = true ↔ x.reloadWait ≤ p.timaReloadDelay :=
  decide_eq_true_iff

/-! ### The cartridge (20 R65, R67, R90-R96) -/

section

variable {c : Cart}

theorem Cart.inv_iff (c : Cart) :
    c.inv = true ↔ cartAdmitted c.mbc (c.romBanks * 0x4000) = true ∧
      Memory.wf (c.romBanks * 0x4000) c.rom = true ∧ Memory.wf c.ramSize.bytes c.ram = true ∧ c.bank1 ≠ 0 := by
  simp only [Cart.inv, Bool.and_eq_true, decide_eq_true_iff, and_assoc]

theorem bank1Of_ne_zero (v : Byte) : bank1Of v ≠ 0 := by
  have hnat := bank1Of_toNat v
  intro h
  rw [h] at hnat
  split at hnat
  next => cases hnat
  next hne => exact hne hnat.symm

theorem bankingWrite_inv (h : c.inv = true) (n : Nat) (v : Byte) : (c.bankingWrite n v).inv = true := by
  cases hmbc : c.mbc with
  | noMbc => rwa [bankingWrite_noMbc v hmbc]
  | mbc1 =>
    rcases Nat.lt_or_ge n 0x2000 with henable | henable
    · rw [bankingWrite_ramEnable v hmbc henable]
      exact h
    rcases Nat.lt_or_ge n 0x4000 with hbank1 | hbank1
    · rw [bankingWrite_bank1 v hmbc henable hbank1]
      obtain ⟨hadmitted, hrom, hram, -⟩ := c.inv_iff.mp h
      exact (Cart.inv_iff _).mpr ⟨hadmitted, hrom, hram, bank1Of_ne_zero v⟩
    rcases Nat.lt_or_ge n 0x6000 with hbank2 | hbank2
    · rw [bankingWrite_bank2 v hmbc hbank1 hbank2]
      exact h
    · rw [bankingWrite_mode v hmbc hbank2]
      exact h

/-- Where external RAM answers, an offset into it is one of its bytes. -/
theorem ramOffset_lt (h : c.ramOpen = true) (off : Nat) : c.ramOffset off < c.ramSize.bytes := by
  cases hmbc : c.mbc with
  | noMbc =>
    rw [ramOffset_noMbc hmbc]
    exact Nat.mod_lt _ ((ramOpen_noMbc hmbc).mp h)
  | mbc1 =>
    rw [ramOffset_mbc1 hmbc]
    exact Nat.mod_lt _ ((ramOpen_mbc1 hmbc).mp h).2

/-- External RAM replaced by a canonical memory of its size. -/
theorem cartInv_withRam (h : c.inv = true) {ram : Memory} (hram : Memory.wf c.ramSize.bytes ram = true) :
    ({ c with ram := ram } : Cart).inv = true := by
  obtain ⟨hadmitted, hrom, -, hbank1⟩ := c.inv_iff.mp h
  exact (Cart.inv_iff _).mpr ⟨hadmitted, hrom, hram, hbank1⟩

theorem writeRam_inv (h : c.inv = true) (off : Nat) (v : Byte) : (c.writeRam off v).inv = true := by
  unfold Cart.writeRam
  split
  next hopen =>
    obtain ⟨-, -, hram, -⟩ := c.inv_iff.mp h
    exact cartInv_withRam h (Store.wf_set v (ramOffset_lt hopen off) hram)
  next => exact h

end

/-! ### The memories (10 R31, R50) -/

/-- The console's memories are canonical and of their sizes. -/
structure Mem.Canonical (m : Mem) : Prop where
  vram : Memory.wf 0x2000 m.vram = true
  wram : Memory.wf 0x2000 m.wram = true
  oam : Memory.wf 160 m.oam = true
  hram : Memory.wf 127 m.hram = true
  sound : Memory.wf 48 m.sound = true

theorem Mem.inv_iff (m : Mem) : m.inv = true ↔ m.Canonical := by
  simp only [Mem.inv, Bool.and_eq_true, and_assoc]
  exact ⟨fun ⟨hvram, hwram, hoam, hhram, hsound⟩ => ⟨hvram, hwram, hoam, hhram, hsound⟩,
    fun ⟨hvram, hwram, hoam, hhram, hsound⟩ => ⟨hvram, hwram, hoam, hhram, hsound⟩⟩

/-! ### The PPU (10 R53, R54; 65 R372, R377, R378, R398) -/

section

variable {p : Ppu} {len : Ppu → Nat} {vram oam : Memory}

/-- The PPU's invariant but for its STAT line, which its registers' writes and its ticks evaluate last. -/
structure Ppu.Sound (p : Ppu) : Prop where
  ly_lt : p.ly < 154
  dot_lt : p.dot < 456
  le_drawLen : 172 ≤ p.drawLen
  drawLen_le : p.drawLen ≤ 289
  mode_on : p.lcdOn = true → p.mode = modeAt p.ly p.dot p.drawLen
  off : p.lcdOn = false → p.ly = 0 ∧ p.dot = 0 ∧ p.mode = .hblank
  winLine_le : p.winLine ≤ p.winBound
  objs_length : p.objs.length ≤ 10
  objs_lt : ∀ i ∈ p.objs, i < 40
  back_wf : Store.wf 23040 p.back = true
  front_wf : Store.wf 23040 p.front = true

theorem Ppu.inv_iff (p : Ppu) : p.inv = true ↔ p.Sound ∧ p.statLine = p.statLevel := by
  simp only [Ppu.inv, Bool.and_eq_true, decide_eq_true_iff, beq_iff_eq, List.all_eq_true, and_assoc]
  constructor
  · rintro ⟨hly, hdot, hlo, hhi, hmode, hstat, hwin, hlength, hobjs, hback, hfront⟩
    refine ⟨⟨hly, hdot, hlo, hhi, fun hon => ?_, fun hoff => ?_, hwin, hlength, hobjs, hback, hfront⟩, hstat⟩
    · simpa [hon] using hmode
    · simpa [hoff, and_assoc] using hmode
  · rintro ⟨h, hstat⟩
    refine ⟨h.ly_lt, h.dot_lt, h.le_drawLen, h.drawLen_le, ?_, hstat, h.winLine_le, h.objs_length, h.objs_lt,
      h.back_wf, h.front_wf⟩
    cases hlcd : p.lcdOn with
    | false => simpa [and_assoc] using h.off hlcd
    | true => simpa using h.mode_on hlcd

/-- Evaluating the STAT line completes the invariant. -/
theorem Ppu.Sound.updateStat (h : p.Sound) : p.updateStat.1.inv = true :=
  (Ppu.inv_iff _).mpr ⟨{ h with }, rfl⟩

/-- The bound of `win_line` never exceeds 144. -/
theorem winBound_le (p : Ppu) : p.winBound ≤ 144 := by
  unfold Ppu.winBound
  split
  next hvisible =>
    rw [Bool.and_eq_true, decide_eq_true_iff] at hvisible
    split <;> omega
  next => exact le_refl 144

theorem winBound_of_off (h : p.lcdOn = false) : p.winBound = 144 := by
  unfold Ppu.winBound
  rw [h]
  rfl

theorem winBound_of_visible (hon : p.lcdOn = true) (hly : p.ly < 144) :
    p.winBound = if p.mode = .hblank then p.ly + 1 else p.ly := by
  unfold Ppu.winBound
  rw [hon, decide_eq_true hly]
  rfl

/-- On a visible line the lines before it are done, and after the visible lines all 144 are. -/
theorem le_winBound {n : Nat} (hvisible : p.ly < 144 → n ≤ p.ly) (h144 : n ≤ 144) : n ≤ p.winBound := by
  unfold Ppu.winBound
  split
  next h =>
    rw [Bool.and_eq_true, decide_eq_true_iff] at h
    have hn := hvisible h.2
    split <;> omega
  next => exact h144

/-! ### The modes by dot (65 R372) -/

theorem modeAt_vblank {ly : Nat} (h : 144 ≤ ly) (dot drawLen : Nat) : modeAt ly dot drawLen = .vblank :=
  if_pos h

theorem modeAt_oamScan {ly dot : Nat} (hly : ly < 144) (hdot : dot < 80) (drawLen : Nat) :
    modeAt ly dot drawLen = .oamScan := by
  unfold modeAt
  rw [if_neg (by omega), if_pos hdot]

theorem modeAt_drawing {ly dot drawLen : Nat} (hly : ly < 144) (hlo : 80 ≤ dot) (hhi : dot < 80 + drawLen) :
    modeAt ly dot drawLen = .drawing := by
  unfold modeAt
  rw [if_neg (by omega), if_neg (by omega), if_pos hhi]

theorem modeAt_hblank {ly dot drawLen : Nat} (hly : ly < 144) (hdot : 80 + drawLen ≤ dot) :
    modeAt ly dot drawLen = .hblank := by
  unfold modeAt
  rw [if_neg (by omega), if_neg (by omega), if_neg (by omega)]

/-- The mode changes at dots 80 and 80 + Drawing length of a visible line alone. -/
theorem modeAt_succ {ly dot drawLen : Nat} (hscan : ¬(ly < 144 ∧ dot + 1 = 80))
    (hdraw : ¬(ly < 144 ∧ dot + 1 = 80 + drawLen)) : modeAt ly (dot + 1) drawLen = modeAt ly dot drawLen := by
  unfold modeAt
  by_cases hly : 144 ≤ ly
  · rw [if_pos hly, if_pos hly]
  · have hscan' : dot + 1 < 80 ↔ dot < 80 := by omega
    have hdraw' : dot + 1 < 80 + drawLen ↔ dot < 80 + drawLen := by omega
    simp only [hscan', hdraw']

/-! ### One dot (65 R377) -/

theorem oamScan_length_le (oam : Memory) (ly height : Nat) : (oamScan oam ly height).length ≤ 10 :=
  List.length_take_le _ _

theorem lt_of_mem_oamScan {ly height i : Nat} (hi : i ∈ oamScan oam ly height) : i < 40 :=
  List.mem_range.mp (List.mem_of_mem_filter (List.mem_of_mem_take hi))

theorem startDrawing_eq (len : Ppu → Nat) (oam : Memory) (p : Ppu) : ∃ q, p.startDrawing len oam = { p with
    wyHit := p.wyHit || decide (p.ly = p.wy.toNat), objs := oamScan oam p.ly p.objHeight, drawLen := len q
    winDrawn := false, mode := .drawing } :=
  ⟨_, rfl⟩

section

variable (h : p.Sound) (hon : p.lcdOn = true)

include h hon

/-- The window's counter is at most the number of lines done with this one. -/
theorem Ppu.Sound.winLine_le_ly_succ (hly : p.ly < 144) : p.winLine ≤ p.ly + 1 := by
  have hwin := h.winLine_le
  rw [winBound_of_visible hon hly] at hwin
  split at hwin <;> omega

/-- Before its HBlank a visible line has not advanced the window's counter. -/
theorem Ppu.Sound.winLine_le_ly (hly : p.ly < 144) (hmode : p.mode ≠ .hblank) : p.winLine ≤ p.ly := by
  have hwin := h.winLine_le
  rwa [winBound_of_visible hon hly, if_neg hmode] at hwin

/-- Dot 0 of a line: the counter of the window is within the lines before it. -/
theorem lineStart_sound {ly winLine : Nat} {mode : Mode} {wyHit : Bool} {front : Frame} (hly : ly < 154)
    (hmode : mode = modeAt ly 0 p.drawLen) (hwin : ly < 144 → winLine ≤ ly) (h144 : winLine ≤ 144)
    (hfront : Store.wf 23040 front = true) :
    ({ p with
      dot := 0, ly := ly, mode := mode, wyHit := wyHit, winLine := winLine, front := front } : Ppu).Sound :=
  { h with
    ly_lt := hly, dot_lt := (by decide : 0 < 456), mode_on := fun _ => hmode
    off := fun hoff => (Bool.eq_false_iff.mp hoff hon).elim, winLine_le := le_winBound hwin h144
    front_wf := hfront }

theorem nextLine_sound : p.nextLine.1.Sound := by
  have hly := h.ly_lt
  have h144 := h.winLine_le.trans (winBound_le p)
  have hlt : (p.ly + 1) % 154 < 154 := Nat.mod_lt _ (by decide)
  unfold Ppu.nextLine
  simp only
  split_ifs with hwrap hvisible hentry
  · exact lineStart_sound h hon hlt (modeAt_oamScan (by omega) (by decide) _).symm (fun _ => Nat.zero_le _)
      (Nat.zero_le _) h.front_wf
  · have hsucc := h.winLine_le_ly_succ hon (by omega)
    exact lineStart_sound h hon hlt (modeAt_oamScan hvisible (by decide) _).symm (fun _ => by omega) h144 h.front_wf
  · exact lineStart_sound h hon hlt (modeAt_vblank (by omega) _ _).symm (fun hly' => absurd hly' hvisible) h144
      h.back_wf
  · have hmode := h.mode_on hon
    rw [modeAt_vblank (by omega)] at hmode
    exact lineStart_sound h hon hlt (hmode.trans (modeAt_vblank (by omega) _ _).symm)
      (fun hly' => absurd hly' hvisible) h144 h.front_wf

theorem startDrawing_sound (hlen : ∀ q, 172 ≤ len q ∧ len q ≤ 289) (hly : p.ly < 144) (hdot : p.dot + 1 = 80) :
    (({ p with dot := p.dot + 1 } : Ppu).startDrawing len oam).Sound := by
  have hmode := h.mode_on hon
  rw [modeAt_oamScan hly (by omega)] at hmode
  have hwin := h.winLine_le_ly hon hly (by rw [hmode]; decide)
  obtain ⟨q, hq⟩ := startDrawing_eq len oam { p with dot := p.dot + 1 }
  obtain ⟨hlo, hhi⟩ := hlen q
  rw [hq]
  have hdrawing := modeAt_drawing (drawLen := len q) hly (le_of_eq hdot.symm) (by omega)
  exact { h with
    dot_lt := (by omega : p.dot + 1 < 456), le_drawLen := hlo, drawLen_le := hhi
    mode_on := fun _ => hdrawing.symm, off := fun hoff => (Bool.eq_false_iff.mp hoff hon).elim
    winLine_le := le_winBound (fun _ => hwin) (hwin.trans hly.le)
    objs_length := oamScan_length_le _ _ _, objs_lt := fun _ => lt_of_mem_oamScan }

theorem startHblank_sound (hly : p.ly < 144) (hdot : p.dot + 1 = 80 + p.drawLen) :
    ({ p with dot := p.dot + 1 } : Ppu).startHblank.Sound := by
  have hlo := h.le_drawLen
  have hhi := h.drawLen_le
  have hmode := h.mode_on hon
  rw [modeAt_drawing hly (by omega) (by omega)] at hmode
  have hwin := h.winLine_le_ly hon hly (by rw [hmode]; decide)
  have hhblank := modeAt_hblank hly (le_of_eq hdot.symm)
  have hbound : (if p.winDrawn then p.winLine + 1 else p.winLine) ≤ p.ly + 1 := by split <;> omega
  exact { h with
    dot_lt := (by omega : p.dot + 1 < 456), mode_on := fun _ => hhblank.symm
    off := fun hoff => (Bool.eq_false_iff.mp hoff hon).elim
    winLine_le := hbound.trans_eq
      (winBound_of_visible (p := Ppu.startHblank { p with dot := p.dot + 1 }) hon hly).symm }

/-- The next dot of a line, where no mode begins. -/
theorem nextDot_sound (hdot : p.dot + 1 < 456) (hscan : ¬(p.ly < 144 ∧ p.dot + 1 = 80))
    (hdraw : ¬(p.ly < 144 ∧ p.dot + 1 = 80 + p.drawLen)) : ({ p with dot := p.dot + 1 } : Ppu).Sound :=
  { h with
    dot_lt := hdot, mode_on := fun _ => (h.mode_on hon).trans (modeAt_succ hscan hdraw).symm
    off := fun hoff => (Bool.eq_false_iff.mp hoff hon).elim }

theorem moveDot_sound (hlen : ∀ q, 172 ≤ len q ∧ len q ≤ 289) : (p.moveDot len oam).1.Sound := by
  have hdot := h.dot_lt
  unfold Ppu.moveDot
  simp only
  split_ifs with hend hscan hdraw
  · have hline := nextLine_sound h hon
    exact hline
  · exact startDrawing_sound h hon hlen hscan.1 hscan.2
  · exact startHblank_sound h hon hdraw.1 hdraw.2
  · exact nextDot_sound h hon (by omega) hscan hdraw

end

/-- The pixels of a line are in the frame (10 R54). -/
theorem drawDot_sound (h : p.Sound) : (p.drawDot vram oam).Sound := by
  unfold Ppu.drawDot
  split
  next hpixel =>
    obtain ⟨hly, -, hfirst, hlast⟩ := hpixel
    have hkey : frameKey p.ly (p.dot + 160 - (80 + p.drawLen)) < 23040 := by
      unfold frameKey
      omega
    exact { h with back_wf := Store.wf_set _ hkey h.back_wf }
  next => exact h

theorem tick_inv (h : p.inv = true) (hlen : ∀ q, 172 ≤ len q ∧ len q ≤ 289) :
    (p.tick len vram oam).1.inv = true := by
  obtain ⟨hsound, -⟩ := p.inv_iff.mp h
  unfold Ppu.tick
  split
  next hon => exact (drawDot_sound (moveDot_sound hsound hon hlen)).updateStat
  next => exact h

/-! ### The writes to its registers (10 R43; 65 R398) -/

/-- LCDC's write turns the LCD off or on, each at its own first dot, or leaves the modes as they are. -/
theorem writeLcdc_sound (h : p.Sound) (v : Byte) : (p.writeLcdc v).Sound := by
  have h144 := h.winLine_le.trans (winBound_le p)
  unfold Ppu.writeLcdc
  simp only
  split_ifs with hturnOff hturnOn
  · rw [Bool.and_eq_true, Bool.not_eq_true'] at hturnOff
    have hoff : bitOf v 7 = false := hturnOff.2
    exact { h with
      ly_lt := (by decide : 0 < 154), dot_lt := (by decide : 0 < 456)
      mode_on := fun hon => (Bool.eq_false_iff.mp hoff hon).elim, off := fun _ => ⟨rfl, rfl, rfl⟩
      winLine_le := (by rw [winBound_of_off (by exact hoff)]; exact h144) }
  · rw [Bool.and_eq_true] at hturnOn
    have hon : bitOf v 7 = true := hturnOn.2
    exact { h with
      ly_lt := (by decide : 0 < 154), dot_lt := (by decide : 0 < 456), le_drawLen := le_refl 172
      drawLen_le := (by decide : 172 ≤ 289), mode_on := fun _ => rfl
      off := fun hoff => (Bool.eq_false_iff.mp hoff hon).elim, winLine_le := Nat.zero_le _
      objs_length := Nat.zero_le _, objs_lt := fun _ hi => (nomatch hi) }
  · have hlcdOn : ({ p with lcdc := v } : Ppu).lcdOn = p.lcdOn := by
      have hsame : ∀ old new : Bool, ¬(old && !new) = true → ¬(!old && new) = true → new = old := by decide
      exact hsame _ _ hturnOff hturnOn
    have hbound : ({ p with lcdc := v } : Ppu).winBound = p.winBound := by
      unfold Ppu.winBound
      rw [hlcdOn]
    exact { h with
      mode_on := fun hon => h.mode_on (hlcdOn.symm.trans hon), off := fun hoff => h.off (hlcdOn.symm.trans hoff)
      winLine_le := h.winLine_le.trans_eq hbound.symm }

end

/-! ### The parts outside the CPU -/

/-- The invariant's parts outside the CPU. -/
structure State.UnitsInv (s : State) : Prop where
  timer : s.timer.inv s.params = true
  ppu : s.ppu.inv = true
  cart : s.cart.inv = true
  mem : s.mem.Canonical

theorem State.inv_iff (s : State) : s.inv = true ↔ s.cpu.inv = true ∧ s.UnitsInv := by
  simp only [State.inv, Bool.and_eq_true, Mem.inv_iff, and_assoc]
  exact and_congr_right fun _ =>
    ⟨fun ⟨htimer, hppu, hcart, hmem⟩ => ⟨htimer, hppu, hcart, hmem⟩,
      fun ⟨htimer, hppu, hcart, hmem⟩ => ⟨htimer, hppu, hcart, hmem⟩⟩

theorem UnitsKept.inv (hkept : UnitsKept s t) (h : s.UnitsInv) : t.UnitsInv := by
  obtain ⟨htimer, hppu, hcart, -, -, -, hmem, hparams⟩ := hkept
  refine ⟨?_, ?_, ?_, ?_⟩
  · rw [htimer, hparams]
    exact h.timer
  · rw [hppu]
    exact h.ppu
  · rw [hcart]
    exact h.cart
  · rw [hmem]
    exact h.mem

theorem changePad_unitsInv (h : s.UnitsInv) (j : Joypad) : (s.changePad j).UnitsInv := by
  obtain ⟨run, flags, hpad, -⟩ := changePad_spec s j
  rw [hpad]
  exact { h with }

theorem requestIf_unitsInv (h : s.UnitsInv) (c : Bool) (k : Nat) : (s.requestIf c k).UnitsInv := by
  cases c <;> exact { h with }

theorem setTimer_unitsInv (h : s.UnitsInv) {x : Timer} (hx : x.reloadWait ≤ s.params.timaReloadDelay) :
    (s.setTimer x).UnitsInv :=
  { h with timer := Timer.inv_iff.mpr hx }

theorem setPpuAndStat_unitsInv (h : s.UnitsInv) {p : Ppu} (hp : p.Sound) : (s.setPpuAndStat p).UnitsInv :=
  requestIf_unitsInv (s := s.setPpu p.updateStat.1) { h with ppu := hp.updateStat } _ _

theorem dmaCopy_wf (s : State) (v : Byte) : Memory.wf 160 (s.dmaCopy v) = true :=
  Store.wfFrom_tabulateFrom _ 0 160 160 (le_refl 160)

theorem oamDma_unitsInv (h : s.UnitsInv) (v : Byte) : (s.oamDma v).UnitsInv := by
  rw [oamDma_eq]
  have hwf := dmaCopy_wf (s.withDma v) v
  generalize (s.withDma v).dmaCopy v = oam at hwf ⊢
  exact { h with mem := { h.mem with oam := hwf } }

/-- The sound registers' cells are 48 (10 R50), so a write through the address map keeps them. -/
theorem writeIo_unitsInv (h : s.UnitsInv) (n : Nat) (v : Byte) : (s.writeIo (ioRegAt n) v).UnitsInv := by
  have hoff := ioRegAt_offset n
  have hreload := Timer.inv_iff.mp h.timer
  obtain ⟨hppu, -⟩ := s.ppu.inv_iff.mp h.ppu
  cases hr : ioRegAt n
  case p1 => exact changePad_unitsInv h _
  case div => exact setTimer_unitsInv h (setDiv_reloadWait_le hreload 0)
  case tima => exact setTimer_unitsInv h (Nat.zero_le _)
  case tac => exact setTimer_unitsInv h (writeTac_reloadWait_le hreload v)
  case sound i =>
    rw [hr] at hoff
    exact { h with mem := { h.mem with sound := Store.wf_set v hoff.2 h.mem.sound } }
  case lcdc => exact setPpuAndStat_unitsInv h (writeLcdc_sound hppu v)
  case stat | lyc => exact setPpuAndStat_unitsInv h { hppu with }
  case dma => exact oamDma_unitsInv h v
  all_goals exact { h with }

theorem offsetFrom_lt {base a : Word} {first n : Nat} (hbase : base.toNat = first) (hfirst : first ≤ a.toNat)
    (hlimit : a.toNat < first + n) : offsetFrom base a < n := by
  rw [offsetFrom_eq hbase hfirst]
  omega

/-- A region's offsets are those of its cells. -/
theorem writeRaw_unitsInv (h : s.UnitsInv) (a : Word) (v : Byte) : (s.writeRaw a v).UnitsInv := by
  have hbounds := regionOf_bounds a
  cases hr : regionOf a <;> rw [hr] at hbounds
  case romLo =>
    rw [writeRaw_romLo s v hr]
    exact { h with cart := bankingWrite_inv h.cart _ v }
  case romHi =>
    rw [writeRaw_romHi s v hr]
    exact { h with cart := bankingWrite_inv h.cart _ v }
  case vram =>
    rw [writeRaw_vram s v hr]
    have hcell : offsetFrom 0x8000 a < 0x2000 := offsetFrom_lt (first := 0x8000) rfl hbounds.1 hbounds.2
    exact { h with mem := { h.mem with vram := Store.wf_set v hcell h.mem.vram } }
  case extRam =>
    rw [writeRaw_extRam s v hr]
    exact { h with cart := writeRam_inv h.cart _ v }
  case wram =>
    rw [writeRaw_wram s v hr]
    have hcell : offsetFrom 0xC000 a < 0x2000 := offsetFrom_lt (first := 0xC000) rfl hbounds.1 hbounds.2
    exact { h with mem := { h.mem with wram := Store.wf_set v hcell h.mem.wram } }
  case mirror =>
    rw [writeRaw_mirror s v hr]
    have hcell : offsetFrom 0xE000 a < 0x2000 := offsetFrom_lt (first := 0xE000) rfl hbounds.1 (by omega)
    exact { h with mem := { h.mem with wram := Store.wf_set v hcell h.mem.wram } }
  case oam =>
    rw [writeRaw_oam s v hr]
    have hcell : offsetFrom 0xFE00 a < 160 := offsetFrom_lt (first := 0xFE00) rfl hbounds.1 hbounds.2
    exact { h with mem := { h.mem with oam := Store.wf_set v hcell h.mem.oam } }
  case unusable => rwa [writeRaw_unusable s v hr]
  case io =>
    rw [writeRaw_io s v hr]
    exact writeIo_unitsInv h _ v
  case hram =>
    rw [writeRaw_hram s v hr]
    have hcell : offsetFrom 0xFF80 a < 127 := offsetFrom_lt (first := 0xFF80) rfl hbounds.1 hbounds.2
    exact { h with mem := { h.mem with hram := Store.wf_set v hcell h.mem.hram } }
  case ie =>
    rw [writeRaw_ie s v hr]
    exact { h with }

theorem write8_unitsInv (h : s.UnitsInv) (a : Word) (v : Byte) : (s.write8 a v).UnitsInv := by
  unfold State.write8
  split
  · exact h
  · exact writeRaw_unitsInv h a v

theorem tCycle_unitsInv (h : s.UnitsInv) : s.tCycle.UnitsInv := by
  rw [tCycle_spec]
  exact { h with
    timer := Timer.inv_iff.mpr (tick_reloadWait_le (Timer.inv_iff.mp h.timer))
    ppu := tick_inv h.ppu (State.mode3Len_range _) }

theorem tCycles_unitsInv (h : s.UnitsInv) (n : Nat) : (s.tCycles n).UnitsInv := by
  induction n with
  | zero => exact h
  | succ n ih =>
    rw [tCycles_succ]
    exact tCycle_unitsInv ih

/-! ### The instructions and the step -/

theorem Built.unitsInv (hs : s.UnitsInv) (h : Built s t) : t.UnitsInv := by
  induction h with
  | fetch len => exact (unitsKept_advance s len).inv hs
  | regs c _ _ _ ih => exact (unitsKept_setCpu _ c).inv ih
  | write a v _ ih => exact write8_unitsInv ih a v
  | charge n _ _ ih => exact (unitsKept_setCost _ _).inv ih

theorem haltCpu_unitsKept (s : State) : UnitsKept s (haltCpu s) := by
  by_cases hbug : s.cpu.ime = false ∧ s.requested ≠ 0 ∧ s.params.haltBug = true
  · rw [haltCpu_of_bug hbug]
    exact unitsKept_withCpu s _ 4
  · rw [haltCpu_of_not_bug hbug]
    exact unitsKept_withCpu s _ 4

theorem exec_unitsInv {i : Instr} (hs : s.UnitsInv) (h : exec i s = .next t) : t.UnitsInv := by
  obtain hb | ⟨-, rfl⟩ | ⟨-, rfl⟩ | ⟨b, -, rfl⟩ := exec_shape h
  · exact hb.unitsInv hs
  · exact (haltCpu_unitsKept s).inv hs
  · rw [stopCpu_eq]
    exact (unitsKept_withCpu _ _ 4).inv (write8_unitsInv hs 0xFF04 0)
  · exact (unitsKept_withCpu s _ 0).inv hs

theorem push16_unitsInv (hs : s.UnitsInv) (v : Word) : (s.push16 v).UnitsInv := by
  obtain ⟨-, hkept, -⟩ := push16_spec s v
  exact hkept.inv (write8_unitsInv (write8_unitsInv hs _ _) _ _)

/-- A dispatch's units are those of two bus writes, after it has cleared a bit of IF (60 R316). -/
theorem dispatch_unitsInv (hs : s.UnitsInv) (k : Nat) : (s.dispatch k).UnitsInv := by
  unfold State.dispatch
  refine (unitsKept_setCost _ _).inv ((unitsKept_setCpu _ _).inv (push16_unitsInv ?_ _))
  exact { hs with }

theorem commitEi_unitsKept (t : State) (commit : Bool) : UnitsKept t (t.commitEi commit) := by
  rw [commitEi_spec]
  exact unitsKept_withCpu t _ _

theorem runCpu_unitsInv (hs : s.UnitsInv) (h : runCpu s = .next u) : u.UnitsInv := by
  obtain ⟨k, -, rfl⟩ | ⟨-, h⟩ := runCpu_next_iff.mp h
  · exact dispatch_unitsInv hs k
  · obtain ⟨t, ht, rfl⟩ := executeNext_next_iff.mp h
    exact (commitEi_unitsKept t _).inv (exec_unitsInv hs ht)

theorem cpuStep_unitsInv (hs : s.UnitsInv) (h : cpuStep s = .next u) : u.UnitsInv := by
  obtain ⟨-, rfl⟩ | ⟨-, -, rfl⟩ | ⟨-, -, h⟩ | ⟨-, h⟩ := cpuStep_next_iff.mp h
  · exact (unitsKept_setCost s 0).inv hs
  · exact (unitsKept_setCost s 4).inv hs
  · exact runCpu_unitsInv ((unitsKept_setCpu s _).inv hs) h
  · exact runCpu_unitsInv hs h

theorem step_inv (hs : s.inv = true) (h : step s = .next t) : t.inv = true := by
  obtain ⟨hcpu, hunits⟩ := s.inv_iff.mp hs
  obtain ⟨u, hu, rfl⟩ := step_next_iff.mp h
  obtain ⟨hticks, -⟩ := tCycles_kept u u.cost
  refine (State.inv_iff _).mpr ⟨?_, tCycles_unitsInv (cpuStep_unitsInv hunits hu) u.cost⟩
  rw [hticks]
  exact cpuStep_cpu_inv hcpu hu

/-! ### The host's other actions (20 R97, R100) -/

theorem pushJoypad_inv (hs : s.inv = true) (sample : Byte) : (s.pushJoypad sample).inv = true := by
  obtain ⟨hcpu, hunits⟩ := s.inv_iff.mp hs
  exact (State.inv_iff _).mpr ⟨changePad_cpu_inv hcpu _, changePad_unitsInv hunits _⟩

theorem writeExtRam_inv (hs : s.inv = true) (bytes : List Byte) : (s.writeExtRam bytes).inv = true := by
  obtain ⟨hcpu, hunits⟩ := s.inv_iff.mp hs
  have hlength : 0 + (bytes.take s.cart.ramSize.bytes).length ≤ s.cart.ramSize.bytes := by
    rw [Nat.zero_add]
    exact List.length_take_le _ _
  exact (State.inv_iff _).mpr ⟨hcpu, { hunits with
    cart := cartInv_withRam hunits.cart (Store.wfFrom_ofList _ 0 _ hlength) }⟩

theorem hostAct_inv {x : HostAction} (hs : s.inv = true) (h : hostAct x s = .next t) : t.inv = true := by
  cases x with
  | systemStep => exact step_inv hs h
  | joypad sample =>
    cases h
    exact pushJoypad_inv hs sample
  | writeRam bytes =>
    cases h
    exact writeExtRam_inv hs bytes

end Sys2Proof.Machine

namespace Sys2Proof.Proofs

open Sys2Proof.Machine

/-- Settles O15: the CPU's part by the branches of its step, the other parts by every write and every T-cycle. -/
theorem stepKeepsTheInvariant : Obligations.StepKeepsTheInvariant := by
  unfold Obligations.StepKeepsTheInvariant
  exact ⟨fun s t => step_inv, fun x s t => hostAct_inv⟩

end Sys2Proof.Proofs
end

section
/-! SUPPORT. The encoder against the decoder (30 R120-R137): an instruction is read from its encoding, and a step runs
the instruction read at PC (60 R311). -/

namespace Sys2Proof.Machine

/-- The decoder takes the bytes that byte 0 counts and reads the instruction from the window they start. -/
theorem decode_of_length_eq {op : Byte} {operand : List Byte} {i : Instr}
    (hlength : (op :: operand).length = lengthOfOpcode op)
    (hread : ∀ rest, decodeWindow op ((operand ++ rest).getD 0 0) ((operand ++ rest).getD 1 0) = i)
    (rest : List Byte) : decode (op :: operand ++ rest) = .ok (i, rest) := by
  have hcount : lengthOfOpcode op - 1 = operand.length := by
    rw [← hlength]
    rfl
  rw [List.cons_append, decode]
  simp only [hcount, hread, List.drop_left, List.length_append, Nat.not_lt.mpr (Nat.le_add_right _ _), if_false]

/-- Byte 0 of an encoding counts its bytes, and the window it starts is read as the instruction: a word operand is put
together from its two bytes, an operand byte is the window's second, and bytes past the encoding are not looked at. -/
theorem decode_encode_append (i : Instr) (rest : List Byte) : decode (encode i ++ rest) = .ok (i, rest) := by
  cases i
  case ldBCNn nn | ldDENn nn | ldHLNn nn | ldSPNn nn | ldAtNnSP nn | ldAtNnA nn | ldAAtNn nn | jp nn | jpNZ nn |
      jpZ nn | jpNC nn | jpC nn | call nn | callNZ nn | callZ nn | callNC nn | callC nn =>
    exact decode_of_length_eq rfl (fun _ => congrArg _ (pair_hi_lo nn)) rest
  all_goals
    refine decode_of_length_eq rfl (fun rest => ?_) rest
    simp only [List.nil_append, List.cons_append, List.getD_cons_zero]
    rfl

/-- The instruction a fetch gives is the one the decoder reads from the window at PC. -/
theorem fetch_of_decode {s : State} {i : Instr} {rest : List Byte}
    (h : decode [s.read8 s.cpu.pc, s.read8 s.cpu.pcAfterOpcode, s.read8 (s.cpu.pcAfterOpcode + 1)] = .ok (i, rest)) :
    s.fetch = i := by
  rw [decode_three] at h
  exact congrArg Prod.fst (Except.ok.inj h)

/-- A Running CPU with no interrupt pending runs the instruction it fetches, then the units take its cost (60 R310,
R311). -/
theorem step_of_fetch {s t : State} (hrun : s.cpu.run = .running) (hpending : s.pending = none)
    (hexec : exec s.fetch s = .next t) : step s = .next ((t.commitEi s.cpu.eiPending).tCycles t.cost) := by
  have hcpu : runCpu s = .next (t.commitEi s.cpu.eiPending) :=
    runCpu_next_iff.mpr (.inr ⟨hpending, executeNext_next_iff.mpr ⟨t, hexec, rfl⟩⟩)
  exact step_next_iff.mpr ⟨_, cpuStep_next_iff.mpr (.inr (.inr (.inr ⟨hrun, hcpu⟩))), by rw [commitEi_cost]⟩

end Sys2Proof.Machine

namespace Sys2Proof.Proofs

open Sys2Proof.Machine

/-- Settles O1: `decode_encode_append`, constructor by constructor, with an operand of any value. -/
theorem decodeOfEncode : Obligations.DecodeOfEncode := by
  unfold Obligations.DecodeOfEncode
  exact decode_encode_append

/-- Settles O3: each word is the encoding of its instruction. -/
theorem specWordsDecode : Obligations.SpecWordsDecode := by
  unfold Obligations.SpecWordsDecode
  have hread : ∀ i, decode (encode i) = .ok (i, []) := fun i => by
    have h := decode_encode_append i []
    rwa [List.append_nil] at h
  exact ⟨hread .ldCB, hread .ldAAtHL, hread (.ldAN 0x3C), hread (.ldAAtNn 0xC123), hread (.ldhAAtN 0x44),
    hread (.ldSPNn 0xFFFE), hread (.ldHLSPE 0x02), hread .addAA, hread .xorA, hread .daa, hread .addHLHL,
    hread .rlca, hread .rlcAtHL, hread .bit7A, hread .res7A, hread .set7AtHL, hread (.jp 0x0150),
    hread (.jrC 0xFC), hread .rst28, hread .reti, hread .halt, hread .stop, hread .illegalDD⟩

/-- Settles O4: the decoded instruction is the one fetched, and `step_of_fetch`. -/
theorem stepRunsTheDecodedInstruction : Obligations.StepRunsTheDecodedInstruction := by
  unfold Obligations.StepRunsTheDecodedInstruction
  intro s t i rest hrun hpending hdecode hexec
  exact step_of_fetch hrun hpending (fetch_of_decode hdecode ▸ hexec)

end Sys2Proof.Proofs
end

section
/-! SUPPORT. The interrupt controller (60 R313-R317, R326): the pending source as the first requested one, and the
dispatch as an acknowledgement and a push. -/

namespace Sys2Proof.Machine

variable {s : State} {k : Nat}

/-! ### The pending source (60 R313, R314) -/

/-- The lowest set bit is the first index whose bit is set. -/
theorem lowestSource_eq_find? (req : BitVec 5) : lowestSource req = (List.range 5).find? req.getLsbD := by
  have hrange : List.range 5 = [0, 1, 2, 3, 4] := rfl
  rw [hrange]
  unfold lowestSource
  split_ifs <;> simp only [List.find?_cons, List.find?_nil, *]

/-- A source is requested where its bits of IE and IF are both 1. -/
theorem requested_getLsbD (s : State) {j : Nat} (hj : j < 5) :
    s.requested.getLsbD j = (s.irq.enable.getLsbD j && s.irq.flags.getLsbD j) := by
  unfold State.requested
  rw [BitVec.getLsbD_and, BitVec.getLsbD_setWidth, decide_eq_true hj, Bool.true_and]

theorem requested_getLsbD_iff (s : State) {j : Nat} (hj : j < 5) :
    s.requested.getLsbD j = true ↔ s.irq.enable.getLsbD j = true ∧ s.irq.flags.getLsbD j = true := by
  rw [requested_getLsbD s hj, Bool.and_eq_true]

theorem pending_eq_some_iff :
    s.pending = some k ↔ s.cpu.ime = true ∧ k < 5 ∧ s.irq.enable.getLsbD k = true ∧ s.irq.flags.getLsbD k = true ∧
      ∀ j < k, ¬(s.irq.enable.getLsbD j = true ∧ s.irq.flags.getLsbD j = true) := by
  have hlowest : lowestSource s.requested = some k ↔ k < 5 ∧ (s.requested.getLsbD k = true ∧
      ∀ j < k, ¬s.requested.getLsbD j = true) := by
    rw [lowestSource_eq_find?, List.find?_range_eq_some]
    simp only [List.mem_range, Bool.not_eq_true', Bool.not_eq_true]
    tauto
  have hbits (hk : k < 5) : (∀ j < k, ¬s.requested.getLsbD j = true) ↔
      ∀ j < k, ¬(s.irq.enable.getLsbD j = true ∧ s.irq.flags.getLsbD j = true) :=
    forall₂_congr fun j hj => not_congr (requested_getLsbD_iff s (hj.trans hk))
  unfold State.pending
  split
  next hime =>
    rw [hlowest, and_iff_right hime]
    exact and_congr_right fun hk => by rw [requested_getLsbD_iff s hk, hbits hk, and_assoc]
  next hime => exact iff_of_false (fun h => nomatch h) fun h => hime h.1

theorem pending_eq_none_iff :
    s.pending = none ↔ s.cpu.ime = false ∨
      ∀ j < 5, ¬(s.irq.enable.getLsbD j = true ∧ s.irq.flags.getLsbD j = true) := by
  have hlowest : lowestSource s.requested = none ↔
      ∀ j < 5, ¬(s.irq.enable.getLsbD j = true ∧ s.irq.flags.getLsbD j = true) := by
    rw [lowestSource_eq_find?, List.find?_range_eq_none]
    refine forall₂_congr fun j hj => ?_
    rw [Bool.not_eq_true', ← Bool.not_eq_true, requested_getLsbD_iff s hj]
  unfold State.pending
  split
  next hime => rw [hlowest, hime, or_iff_right (by decide)]
  next hime => exact iff_of_true rfl (.inl (Bool.eq_false_iff.mpr hime))

/-! ### The dispatch (60 R315-R317, R326) -/

/-- Acknowledging a source clears its bit of IF alone. -/
theorem acknowledge_flags_getLsbD (s : State) (k : Nat) {j : Nat} (hj : j < 5) :
    (s.acknowledge k).irq.flags.getLsbD j = (s.irq.flags.getLsbD j && !decide (j = k)) := by
  show (s.irq.flags &&& ~~~(1#5 <<< k)).getLsbD j = _
  have hbit : (1#5 <<< k).getLsbD j = decide (j = k) := by
    rw [BitVec.getLsbD_shiftLeft, decide_eq_true hj, Bool.true_and, BitVec.getLsbD_one]
    by_cases h : j = k
    · simp [h]
    · simp [h]
      omega
  rw [BitVec.getLsbD_and, BitVec.getLsbD_not, hbit, decide_eq_true hj, Bool.true_and]

/-- Where a dispatch returns to: the halt bug has PC one past it (60 R316). -/
def State.returnAddress (s : State) : Word := if s.cpu.haltBug then s.cpu.pc - 1 else s.cpu.pc

/-- The CPU a dispatch pushes with: the interrupt latches and the halt bug are cleared. -/
def State.enterHandler (s : State) : State :=
  s.setCpu { s.cpu with ime := false, eiPending := false, haltBug := false }

theorem dispatch_eq (s : State) (k : Nat) : s.dispatch k =
    (((s.acknowledge k).enterHandler.push16 s.returnAddress).setPc (vectorOf k)).setCost s.params.dispatchCycles :=
  rfl

/-- A dispatch from Running moves SP and PC, clears the three latches and leaves the rest of the CPU. -/
theorem dispatch_cpu (hrun : s.cpu.run = .running) (k : Nat) : (s.dispatch k).cpu = { s.cpu with
    sp := s.cpu.sp - 2, pc := vectorOf k, ime := false, eiPending := false, haltBug := false } := by
  have hrunning : (s.acknowledge k).enterHandler.cpu.run = .running := hrun
  have hpush := push16_run (by rw [hrunning]; decide) s.returnAddress
  obtain ⟨hcpu, -, -⟩ := push16_spec (s.acknowledge k).enterHandler s.returnAddress
  rw [dispatch_eq, State.setCost_cpu, State.setPc_cpu]
  rw [hcpu] at hpush ⊢
  have hself : s.cpu = { s.cpu with run := .running } := by rw [← hrun]
  rw [hpush, hrunning, hself]
  rfl

/-- A dispatch's units are those the two writes of its push leave, after the acknowledgement. -/
theorem dispatch_unitsKept (s : State) (k : Nat) : UnitsKept
    (((s.acknowledge k).write8 (s.cpu.sp - 1) (hiByte s.returnAddress)).write8 (s.cpu.sp - 2)
      (loByte s.returnAddress)) (s.dispatch k) := by
  have henter : UnitsKept (s.acknowledge k) (s.acknowledge k).enterHandler := UnitsKept.refl _
  obtain ⟨hwrites, -⟩ := write8_write8_congr (a1 := s.cpu.sp - 1) (v1 := hiByte s.returnAddress)
    (a2 := s.cpu.sp - 2) (v2 := loByte s.returnAddress) henter rfl
  obtain ⟨-, hpush, -⟩ := push16_spec (s.acknowledge k).enterHandler s.returnAddress
  exact hwrites.trans hpush

theorem step_of_pending (hrun : s.cpu.run = .running) (hpending : s.pending = some k) :
    step s = .next ((s.dispatch k).tCycles s.params.dispatchCycles) :=
  step_next_iff.mpr ⟨s.dispatch k,
    cpuStep_next_iff.mpr (.inr (.inr (.inr ⟨hrun, runCpu_next_iff.mpr (.inl ⟨k, hpending, rfl⟩)⟩))), rfl⟩

end Sys2Proof.Machine

namespace Sys2Proof.Proofs

open Sys2Proof.Machine

/-- Settles O7: `pendingInterrupt` is the first requested source, looked for where IME is 1. -/
theorem pendingIsTheLowestRequestedSource : Obligations.PendingIsTheLowestRequestedSource := by
  unfold Obligations.PendingIsTheLowestRequestedSource
  exact fun s => ⟨fun k => pending_eq_some_iff, pending_eq_none_iff⟩

/-- Settles O8: a dispatch is the acknowledgement, whose state is `q`, and two bus writes, whose frame is that of each
write; its cost is P_DISPATCH_CYCLES whatever the push wrote to (log entry 10). -/
theorem dispatchTakesThePendingInterrupt : Obligations.DispatchTakesThePendingInterrupt := by
  unfold Obligations.DispatchTakesThePendingInterrupt
  intro s k hrun hpending
  refine ⟨s.acknowledge k, s.dispatch k, s.returnAddress, step_of_pending hrun hpending, rfl, rfl,
    fun j hj => acknowledge_flags_getLsbD s k hj, dispatch_cpu hrun k, rfl, dispatch_unitsKept s k,
    fun b hfirst hsecond => ?_⟩
  rw [read8_congr (dispatch_unitsKept s k), read8_write8_of_not_touches _ _ hsecond,
    read8_write8_of_not_touches _ _ hfirst]

end Sys2Proof.Proofs
end

section
/-! SUPPORT. The reset state (70 R430): what its registers read, and that with any admitted cartridge and any draws of
the right sizes it meets the machine's invariant. -/

namespace Sys2Proof.Machine

/-! ### Two memories put together -/

section

variable {w lo mid hi a : Nat} {m m' : Store w}

theorem Store.wfFrom_append (hm : Store.wfFrom lo mid m = true) (hm' : Store.wfFrom mid hi m' = true)
    (hlo : lo ≤ mid) (hhi : mid ≤ hi) : Store.wfFrom lo hi (m ++ m') = true := by
  induction m generalizing lo with
  | nil => exact Store.wfFrom_mono hlo hm'
  | cons c m ih =>
    obtain ⟨k, x⟩ := c
    obtain ⟨hk, hkmid, hx, hrest⟩ := Store.wfFrom_cons.mp hm
    exact Store.wfFrom_cons.mpr ⟨hk, by omega, hx, ih hrest hkmid⟩

/-- A cell that the second memory does not list is the first's. -/
theorem Store.get_append_left (h : Store.get m' a = 0) : Store.get (m ++ m') a = Store.get m a := by
  induction m with
  | nil => exact h
  | cons c m ih => rw [List.cons_append, Store.get, Store.get, ih]

/-- A cell past the first memory's keys is the second's. -/
theorem Store.get_append_right (hm : Store.wfFrom lo mid m = true) (ha : mid ≤ a) :
    Store.get (m ++ m') a = Store.get m' a := by
  induction m generalizing lo with
  | nil => rfl
  | cons c m ih =>
    obtain ⟨k, x⟩ := c
    obtain ⟨-, hkmid, -, hrest⟩ := Store.wfFrom_cons.mp hm
    rw [List.cons_append, Store.get, if_neg (by omega), ih hrest]

end

/-! ### Reads of the I/O registers (10 R34) -/

section

variable (s : State) {a : Word}

theorem read8_io (r : IoReg) (ha : regionOf a = .io) (hr : ioRegAt (offsetFrom 0xFF00 a) = r) :
    s.read8 a = s.readIo r := by
  rw [read8_of_region s ha rfl, readRaw_io s ha, hr]

theorem read8_ie : s.read8 0xFFFF = s.irq.enable := by
  have hr : regionOf 0xFFFF = .ie := by decide
  rw [read8_of_region s hr rfl, readRaw_ie s hr]

variable (hfirst : 0xFF10 ≤ a.toNat) (hlast : a.toNat ≤ 0xFF3F)

include hfirst hlast

theorem regionOf_sound : regionOf a = .io :=
  regionOf_of_interval .io (by simp only [Region.first]; omega) (by simp only [Region.limit]; omega)

theorem ioRegAt_sound : ioRegAt (offsetFrom 0xFF00 a) = .sound (a.toNat - 0xFF10) := by
  rw [offsetFrom_eq (n := 0xFF00) rfl (by omega)]
  unfold ioRegAt
  rw [if_pos (by omega)]
  exact congrArg IoReg.sound (by omega)

/-- The sound registers and wave RAM are 48 bytes from 0xFF10 on (10 R50). -/
theorem read8_sound : s.read8 a = Store.get s.mem.sound (a.toNat - 0xFF10) :=
  read8_io s _ (regionOf_sound hfirst hlast) (ioRegAt_sound hfirst hlast)

end

/-- The address i past a base. -/
theorem toNat_add_ofNat {base : Word} {n i : Nat} (hbase : base.toNat = n) (h : n + i < 65536) :
    (base + BitVec.ofNat 16 i).toNat = n + i := by
  rw [BitVec.toNat_add, BitVec.toNat_ofNat, hbase]
  omega

/-! ### The reset state (70 R430) -/

theorem Draws.wf_iff (d : Draws) (ramSize : RamSize) : d.wf ramSize = true ↔
    Memory.wf 0x2000 d.vram = true ∧ Memory.wf 0x2000 d.wram = true ∧ Memory.wf 160 d.oam = true ∧
      Memory.wf 127 d.hram = true ∧ Store.wfFrom 32 48 d.wave = true ∧
      Memory.wf ramSize.bytes d.extRam = true := by
  simp only [Draws.wf, Bool.and_eq_true, and_assoc]

theorem soundReset_wf : Store.wfFrom 0 32 soundReset = true := by decide

/-- With no source enabled the STAT line is 0 (65 R378). -/
theorem statLevel_of_stat_zero {p : Ppu} (h : p.stat = 0) : p.statLevel = false := by
  unfold Ppu.statLevel
  rw [h]
  simp

section

variable (mbc : Mbc) (romBanks : Nat) {ramSize : RamSize} (rom : Memory) (p : Params) {d : Draws}

theorem power_lcdOn : (State.power mbc romBanks ramSize rom p d).ppu.lcdOn = true := by
  show bitOf 0x91 7 = true
  decide

/-- The PPU starts at the first dot of the frame with the LCD on, no source of its STAT line enabled. -/
theorem power_ppu_inv : (State.power mbc romBanks ramSize rom p d).ppu.inv = true :=
  (Ppu.inv_iff _).mpr ⟨{
    ly_lt := (by decide : 0 < 154), dot_lt := (by decide : 0 < 456), le_drawLen := le_refl 172
    drawLen_le := (by decide : 172 ≤ 289), mode_on := fun _ => rfl
    off := fun hoff => absurd hoff (by rw [power_lcdOn]; decide)
    winLine_le := Nat.zero_le _, objs_length := Nat.zero_le _, objs_lt := fun _ hi => (nomatch hi)
    back_wf := rfl, front_wf := rfl }, (statLevel_of_stat_zero rfl).symm⟩

/-- The pairs of 8-bit registers, AF with the flags as a byte. -/
theorem power_pairs :
    pair ((State.power mbc romBanks ramSize rom p d).reg .a)
        (State.power mbc romBanks ramSize rom p d).cpu.f.toByte = 0x01B0 ∧
      (State.power mbc romBanks ramSize rom p d).pairOf .bc = 0x0013 ∧
      (State.power mbc romBanks ramSize rom p d).pairOf .de = 0x00D8 ∧
      (State.power mbc romBanks ramSize rom p d).pairOf .hl = 0x014D :=
  ⟨(by decide : pair 0x01 ({ z := true, n := false, h := true, c := true } : Flags).toByte = 0x01B0),
    (by decide : pair 0x00 0x13 = 0x0013), (by decide : pair 0x00 0xD8 = 0x00D8),
    (by decide : pair 0x01 0x4D = 0x014D)⟩

/-- The registers whose reads are put together from stored bits and bits that read 1 (10 R35-R43). -/
theorem power_readIo :
    (State.power mbc romBanks ramSize rom p d).readIo .p1 = 0xCF ∧
      (State.power mbc romBanks ramSize rom p d).readIo .sc = 0x7E ∧
      (State.power mbc romBanks ramSize rom p d).readIo .tac = 0xF8 ∧
      (State.power mbc romBanks ramSize rom p d).readIo .iflag = 0xE1 ∧
      (State.power mbc romBanks ramSize rom p d).readIo .stat = 0x86 :=
  ⟨(by decide : ({ selAct := false, selDir := false, buttons := 0 } : Joypad).readP1 = 0xCF),
    (by decide : (bitAt false 7 ||| bitAt false 0 ||| 0x7E : Byte) = 0x7E),
    (by decide : ((0 : BitVec 3).setWidth 8 ||| 0xF8 : Byte) = 0xF8),
    (by decide : ((1 : BitVec 5).setWidth 8 ||| 0xE0 : Byte) = 0xE1),
    (by decide : (0x80 ||| ((0 : BitVec 4).setWidth 8 <<< 3) ||| bitAt true 2 ||| 2 : Byte) = 0x86)⟩

/-- Wave RAM reads the draw. -/
theorem power_read8_wave {i : Nat} (hi : i < 16) :
    (State.power mbc romBanks ramSize rom p d).read8 (0xFF30 + BitVec.ofNat 16 i) = Store.get d.wave (32 + i) := by
  have haddr := toNat_add_ofNat (base := 0xFF30) (n := 0xFF30) (i := i) rfl (by omega)
  rw [read8_sound _ (by omega) (by omega), haddr, show 0xFF30 + i - 0xFF10 = 32 + i by omega]
  exact Store.get_append_right soundReset_wf (Nat.le_add_right 32 i)

variable (hd : d.wf ramSize = true)

include hd

theorem power_mem_canonical : (State.power mbc romBanks ramSize rom p d).mem.Canonical := by
  obtain ⟨hvram, hwram, hoam, hhram, hwave, -⟩ := (d.wf_iff ramSize).mp hd
  exact ⟨hvram, hwram, hoam, hhram, Store.wfFrom_append soundReset_wf hwave (by decide) (by decide)⟩

theorem power_inv (hadmitted : cartAdmitted mbc (romBanks * 0x4000) = true)
    (hrom : Memory.wf (romBanks * 0x4000) rom = true) :
    (State.power mbc romBanks ramSize rom p d).inv = true := by
  obtain ⟨-, -, -, -, -, hextRam⟩ := (d.wf_iff ramSize).mp hd
  exact (State.inv_iff _).mpr ⟨Cpu.inv_of_running rfl, {
    timer := Timer.inv_iff.mpr (Nat.zero_le _), ppu := power_ppu_inv mbc romBanks rom p
    cart := (Cart.inv_iff _).mpr ⟨hadmitted, hrom, hextRam, (by decide : (1 : BitVec 5) ≠ 0)⟩
    mem := power_mem_canonical mbc romBanks rom p hd }⟩

/-- The sound registers read their reset values, of which those the list leaves out are 0 (10 R50). -/
theorem power_read8_sound {i : Nat} (hi : i < 32) :
    (State.power mbc romBanks ramSize rom p d).read8 (0xFF10 + BitVec.ofNat 16 i) = Store.get soundReset i := by
  obtain ⟨-, -, -, -, hwave, -⟩ := (d.wf_iff ramSize).mp hd
  have haddr := toNat_add_ofNat (base := 0xFF10) (n := 0xFF10) (i := i) rfl (by omega)
  rw [read8_sound _ (by omega) (by omega), haddr, Nat.add_sub_cancel_left]
  exact Store.get_append_left (Store.get_of_wfFrom_below hwave hi)

end

end Sys2Proof.Machine

namespace Sys2Proof.Proofs

open Sys2Proof.Machine

/-- Settles O11: each field by its definition, each register through the address map. -/
theorem resetState : Obligations.ResetState := by
  unfold Obligations.ResetState
  intro mbc romBanks ramSize rom p d hd s
  have hsound : (List.range 32).map (fun i => s.read8 (0xFF10 + BitVec.ofNat 16 i)) =
      (List.range 32).map (Store.get soundReset) :=
    List.map_congr_left fun i hi => power_read8_sound mbc romBanks rom p hd (List.mem_range.mp hi)
  obtain ⟨hp1, hsc, htac, hiflag, hstat⟩ := power_readIo mbc romBanks rom p (ramSize := ramSize) (d := d)
  obtain ⟨haf, hbc, hde, hhl⟩ := power_pairs mbc romBanks rom p (ramSize := ramSize) (d := d)
  exact ⟨haf, hbc, hde, hhl, rfl, rfl, rfl, rfl, rfl, rfl, rfl, rfl, rfl, rfl, rfl, rfl,
    fun i hi => power_read8_wave mbc romBanks rom p hi, rfl, rfl, rfl, rfl, rfl,
    (read8_io s .p1 rfl rfl).trans hp1, read8_io s .sb rfl rfl, rfl, rfl, (read8_io s .sc rfl rfl).trans hsc, rfl,
    read8_io s .div rfl rfl, read8_io s .tima rfl rfl, read8_io s .tma rfl rfl, rfl,
    (read8_io s .tac rfl rfl).trans htac, rfl, rfl, (read8_io s .iflag rfl rfl).trans hiflag, read8_ie s, hsound,
    read8_io s .lcdc rfl rfl, rfl, (read8_io s .stat rfl rfl).trans hstat,
    read8_io s .scy rfl rfl, read8_io s .scx rfl rfl, read8_io s .lyc rfl rfl, read8_io s .wy rfl rfl,
    read8_io s .wx rfl rfl, read8_io s .dma rfl rfl, read8_io s .bgp rfl rfl, read8_io s .obp0 rfl rfl,
    read8_io s .obp1 rfl rfl, rfl, rfl, rfl, rfl, rfl, rfl, rfl, rfl, rfl, fun _ _ => rfl, fun _ _ => rfl, rfl⟩

/-- Settles O12: `power_inv`, at the cartridge, the parameters and the draws the log names. -/
theorem resetMeetsTheInvariant : Obligations.ResetMeetsTheInvariant := by
  unfold Obligations.ResetMeetsTheInvariant
  exact power_inv .noMbc 2 [] {} rfl (by decide) rfl

/-- Settles O13: an admitted image is a whole number of banks, its bytes are a canonical memory, and `power_inv`. -/
theorem launchMeetsTheInvariant : Obligations.LaunchMeetsTheInvariant := by
  unfold Obligations.LaunchMeetsTheInvariant
  intro image mbc ramSize p d s hd hlaunch
  by_cases hadmitted : cartAdmitted mbc image.length = true
  · rw [launch_of_admitted hadmitted] at hlaunch
    cases hlaunch
    have hbanks : image.length / 0x4000 * 0x4000 = image.length :=
      Nat.div_mul_cancel (bankSize_dvd_of_cartAdmitted hadmitted)
    refine power_inv mbc _ _ p hd (hbanks.symm ▸ hadmitted) ?_
    rw [hbanks]
    exact Store.wfFrom_ofList image 0 image.length (by omega)
  · rw [launch_of_not_admitted hadmitted] at hlaunch
    cases hlaunch

end Sys2Proof.Proofs
end

section
/-! SUPPORT. What a read gives right after a write to the same address: the byte where storage answers (20 R66-R74), and
of an I/O register the bits its rule stores (10 R35-R51). -/

namespace Sys2Proof.Machine

variable (s : State) {a : Word} (v : Byte)

/-! ### Storage (20 R66-R74) -/

/-- The regions of storage: VRAM, WRAM and its mirror, OAM, HRAM and IE, and external RAM where it answers. -/
def State.stores (s : State) (a : Word) : Prop :=
  regionOf a ∈ [Region.vram, .wram, .mirror, .oam, .hram, .ie] ∨ (regionOf a = .extRam ∧ s.cart.ramOpen = true)

theorem stores_of_interval {s : State}
    (h : (0x8000 ≤ a.toNat ∧ a.toNat < 0xFEA0 ∧ (0xA000 ≤ a.toNat → a.toNat < 0xC000 → s.cart.ramOpen = true)) ∨
      0xFF80 ≤ a.toNat) : s.stores a := by
  have hbounds := regionOf_bounds a
  unfold State.stores
  cases hr : regionOf a <;> rw [hr] at hbounds <;> simp only at hbounds
  case romLo | romHi | unusable | io => omega
  case extRam =>
    obtain ⟨-, -, hopen⟩ := h.resolve_right (by omega)
    exact .inr ⟨rfl, hopen hbounds.1 hbounds.2⟩
  all_goals exact .inl (by decide)

theorem readRaw_writeRaw_same {s : State} (h : s.stores a) : (s.writeRaw a v).readRaw a = v := by
  rcases h with h | ⟨hr, hopen⟩
  · simp only [List.mem_cons, List.not_mem_nil, or_false] at h
    rcases h with hr | hr | hr | hr | hr | hr
    · rw [writeRaw_vram s v hr, readRaw_vram _ hr, State.setMem_mem, Store.get_set_same]
    · rw [writeRaw_wram s v hr, readRaw_wram _ hr, State.setMem_mem, Store.get_set_same]
    · rw [writeRaw_mirror s v hr, readRaw_mirror _ hr, State.setMem_mem, Store.get_set_same]
    · rw [writeRaw_oam s v hr, readRaw_oam _ hr, State.setMem_mem, Store.get_set_same]
    · rw [writeRaw_hram s v hr, readRaw_hram _ hr, State.setMem_mem, Store.get_set_same]
    · rw [writeRaw_ie s v hr, readRaw_ie _ hr, State.setIrq_irq]
  · rw [writeRaw_extRam s v hr, readRaw_extRam _ hr, State.setCart_cart, Cart.writeRam, if_pos hopen, Cart.readRam,
      if_pos (by exact hopen)]
    exact Store.get_set_same _ _ v

theorem read8_write8_same {s : State} (hfree : s.blocked a = false) (h : s.stores a) :
    (s.write8 a v).read8 a = v := by
  have hlcdc : a ≠ 0xFF40 := by
    rintro rfl
    rcases h with h | ⟨h, -⟩ <;> revert h <;> decide
  rw [read8_of_not_blocked _ ((write8_blocked s v hlcdc a).trans hfree), write8_of_not_blocked s v hfree,
    readRaw_writeRaw_same v h]

/-! ### The I/O registers (10 R34) -/

section

variable (r : IoReg) (ha : regionOf a = .io) (hr : ioRegAt (offsetFrom 0xFF00 a) = r)

include ha hr

theorem write8_io : s.write8 a v = s.writeIo r v := by
  rw [write8_of_region s v ha rfl, writeRaw_io s v ha, hr]

theorem read8_write8_io : (s.write8 a v).read8 a = (s.writeIo r v).readIo r := by
  rw [write8_io s v r ha hr, read8_io _ r ha hr]

end

theorem ioRegAt_unmapped {n : Nat} (h : n = 3 ∨ (8 ≤ n ∧ n ≤ 0x0E) ∨ 0x4C ≤ n) : ioRegAt n = .unmapped := by
  have hoffset := ioRegAt_offset n
  cases hr : ioRegAt n
  case unmapped => rfl
  all_goals
    rw [hr] at hoffset
    simp only at hoffset
    omega

/-- The high bits of P1 are its two selections and two that read 1; the low ones are the buttons' (10 R35). -/
theorem readP1_and_F0 {j : Joypad} {v : Byte} (hact : j.selAct = bitOf v 5) (hdir : j.selDir = bitOf v 4) :
    j.readP1 &&& 0xF0 = (v &&& 0x30) ||| 0xC0 := by
  obtain ⟨h4, h5, h6, h7⟩ := bitOf_readP1_high j
  rw [hdir] at h4
  rw [hact] at h5
  unfold bitOf at h4 h5 h6 h7
  apply BitVec.eq_of_getLsbD_eq
  intro i hi
  rw [BitVec.getLsbD_and, BitVec.getLsbD_or, BitVec.getLsbD_and]
  interval_cases i <;> simp [h4, h5, h6, h7, -BitVec.getLsbD_eq_getElem]

theorem readIo_writeIo_p1 : (s.writeIo .p1 v).readIo .p1 &&& 0xF0 = (v &&& 0x30) ||| 0xC0 := by
  show (s.changePad _).pad.readP1 &&& 0xF0 = _
  rw [changePad_pad]
  exact readP1_and_F0 rfl rfl

/-- SC stores bits 7 and 0 (10 R36). -/
theorem readIo_writeIo_sc : (s.writeIo .sc v).readIo .sc = (v &&& 0x81) ||| 0x7E := by
  have hbits : ∀ v : Byte, bitAt (bitOf v 7) 7 ||| bitAt (bitOf v 0) 0 ||| 0x7E = (v &&& 0x81) ||| 0x7E := by
    decide +kernel
  exact hbits v

theorem readIo_writeIo_div : (s.writeIo .div v).readIo .div = 0 := by
  show hiByte (s.timer.resetDiv s.params.timaReloadDelay).div = 0
  rw [resetDiv_div]
  rfl

/-- TAC stores three bits (10 R40). -/
theorem readIo_writeIo_tac : (s.writeIo .tac v).readIo .tac = (v &&& 0x07) ||| 0xF8 := by
  have hbits : ∀ v : Byte, (v.setWidth 3).setWidth 8 ||| 0xF8 = (v &&& 0x07) ||| 0xF8 := by decide +kernel
  obtain ⟨tima, wait, htimer⟩ := writeTac_kept s.params.timaReloadDelay s.timer v
  rw [State.writeIo, htimer]
  exact hbits v

/-- IF stores five bits (10 R41). -/
theorem readIo_writeIo_iflag : (s.writeIo .iflag v).readIo .iflag = (v &&& 0x1F) ||| 0xE0 := by
  have hbits : ∀ v : Byte, (v.setWidth 5).setWidth 8 ||| 0xE0 = (v &&& 0x1F) ||| 0xE0 := by decide +kernel
  exact hbits v

theorem readIo_writeIo_lcdc : (s.writeIo .lcdc v).readIo .lcdc = v := by
  obtain ⟨ly, dot, mode, statLine, wyHit, winLine, objs, drawLen, hp⟩ := writeLcdc_kept s.ppu v
  rw [State.writeIo, setPpuAndStat_readIo _ (by decide), hp]
  rfl

/-- STAT stores its four source enables, bit 7 reads 1, and the low bits are the PPU's (10 R43). -/
theorem readIo_writeIo_stat : (s.writeIo .stat v).readIo .stat &&& 0xF8 = (v &&& 0x78) ||| 0x80 := by
  have hbits : ∀ (v : Byte) (c : Bool) (m : Mode),
      (0x80 ||| (((v >>> 3).setWidth 4).setWidth 8 <<< 3) ||| bitAt c 2 ||| m.code) &&& 0xF8 =
        (v &&& 0x78) ||| 0x80 := by
    intro v c m
    cases c <;> cases m <;> revert v <;> decide +kernel
  rw [State.writeIo, setPpuAndStat_readIo _ (by decide)]
  exact hbits v _ _

theorem readIo_writeIo_lyc : (s.writeIo .lyc v).readIo .lyc = v := by
  rw [State.writeIo, setPpuAndStat_readIo _ (by decide)]
  rfl

theorem readIo_writeIo_sound (i : Nat) : (s.writeIo (.sound i) v).readIo (.sound i) = v :=
  Store.get_set_same _ _ v

end Sys2Proof.Machine

namespace Sys2Proof.Proofs

open Sys2Proof.Machine

/-- Settles O18: the address is one of storage, where the write sets the cell the read gives. -/
theorem readAfterWrite : Obligations.ReadAfterWrite := by
  unfold Obligations.ReadAfterWrite
  exact fun s a v hfree h => read8_write8_same v hfree (stores_of_interval h)

/-- Settles O19: `read8_write8_of_not_touches`, region by region and register by register. -/
theorem writeTouchesOnlyItsCells : Obligations.WriteTouchesOnlyItsCells := by
  unfold Obligations.WriteTouchesOnlyItsCells
  exact fun s a b v h => read8_write8_of_not_touches s v h

/-- Settles O24: each register by the write and the read of the address map. -/
theorem ioRegistersReadBack : Obligations.IoRegistersReadBack := by
  unfold Obligations.IoRegistersReadBack
  intro s v after
  have hreg (r : IoReg) (a : Word) (ha : regionOf a = .io) (hr : ioRegAt (offsetFrom 0xFF00 a) = r) :
      after a = (s.writeIo r v).readIo r := read8_write8_io s v r ha hr
  have hie : regionOf 0xFFFF = .ie := by decide
  refine ⟨hreg .p1 0xFF00 rfl rfl ▸ readIo_writeIo_p1 s v, hreg .sb 0xFF01 rfl rfl,
    hreg .sc 0xFF02 rfl rfl ▸ readIo_writeIo_sc s v, hreg .div 0xFF04 rfl rfl ▸ readIo_writeIo_div s v,
    hreg .tima 0xFF05 rfl rfl, hreg .tma 0xFF06 rfl rfl, hreg .tac 0xFF07 rfl rfl ▸ readIo_writeIo_tac s v,
    hreg .iflag 0xFF0F rfl rfl ▸ readIo_writeIo_iflag s v, fun a hfirst hlast => ?_,
    hreg .lcdc 0xFF40 rfl rfl ▸ readIo_writeIo_lcdc s v, hreg .stat 0xFF41 rfl rfl ▸ readIo_writeIo_stat s v,
    hreg .scy 0xFF42 rfl rfl, hreg .scx 0xFF43 rfl rfl, write8_io s v .ly rfl rfl, hreg .ly 0xFF44 rfl rfl,
    hreg .lyc 0xFF45 rfl rfl ▸ readIo_writeIo_lyc s v, hreg .dma 0xFF46 rfl rfl, hreg .bgp 0xFF47 rfl rfl,
    hreg .obp0 0xFF48 rfl rfl, hreg .obp1 0xFF49 rfl rfl, hreg .wy 0xFF4A rfl rfl, hreg .wx 0xFF4B rfl rfl, ?_,
    fun a ha => ?_⟩
  · exact (hreg _ a (regionOf_sound hfirst hlast) (ioRegAt_sound hfirst hlast)).trans (readIo_writeIo_sound s v _)
  · exact read8_write8_same v (blocked_eq_false s (hie ▸ rfl)) (.inl (hie ▸ by decide))
  · have hio : 0xFF00 ≤ a.toNat ∧ a.toNat < 0xFF80 := by
      rcases ha with rfl | ha
      · decide
      · omega
    have hregion : regionOf a = .io := regionOf_of_interval .io hio.1 hio.2
    have hunmapped : ioRegAt (offsetFrom 0xFF00 a) = .unmapped := by
      apply ioRegAt_unmapped
      rw [offsetFrom_eq (n := 0xFF00) rfl hio.1]
      rcases ha with rfl | ha
      · decide
      · omega
    exact ⟨hreg _ a hregion hunmapped, write8_io s v _ hregion hunmapped⟩

end Sys2Proof.Proofs
end

section
/-! SUPPORT. What the T-cycle ticks leave unchanged (60 R310, R341; 65 R377): the registers the CPU writes, and all of
the machine but the timer, the PPU and the interrupt requests of each. -/

namespace Sys2Proof.Machine

variable (len : Ppu → Nat) (vram oam : Memory) (p : Ppu)

/-! ### The PPU's registers (10 R42-R48) -/

/-- The PPU's registers that the CPU writes. -/
def Ppu.registers (p : Ppu) : Byte × BitVec 4 × Byte × Byte × Byte × Byte × Byte × Byte × Byte × Byte :=
  (p.lcdc, p.stat, p.scy, p.scx, p.lyc, p.bgp, p.obp0, p.obp1, p.wy, p.wx)

theorem registers_eq_iff {p q : Ppu} : q.registers = p.registers ↔
    q.lcdc = p.lcdc ∧ q.stat = p.stat ∧ q.scy = p.scy ∧ q.scx = p.scx ∧ q.lyc = p.lyc ∧ q.bgp = p.bgp ∧
      q.obp0 = p.obp0 ∧ q.obp1 = p.obp1 ∧ q.wy = p.wy ∧ q.wx = p.wx := by
  simp only [Ppu.registers, Prod.mk.injEq]

@[simp] theorem nextLine_registers : p.nextLine.1.registers = p.registers := by
  unfold Ppu.nextLine
  simp only
  split_ifs <;> rfl

@[simp] theorem moveDot_registers : (p.moveDot len oam).1.registers = p.registers := by
  unfold Ppu.moveDot
  simp only
  split_ifs
  · exact nextLine_registers _
  all_goals rfl

@[simp] theorem drawDot_registers : (p.drawDot vram oam).registers = p.registers := by
  unfold Ppu.drawDot
  split <;> rfl

@[simp] theorem updateStat_registers : p.updateStat.1.registers = p.registers := rfl

@[simp] theorem tick_registers : (p.tick len vram oam).1.registers = p.registers := by
  unfold Ppu.tick
  split
  · simp only [updateStat_registers, drawDot_registers, moveDot_registers]
  · rfl

/-! ### The interrupt requests (60 R312) -/

/-- The PPU requests VBlank and LCD-STAT alone. -/
theorem tick_requests {j : Nat} (hj : 2 ≤ j) : (p.tick len vram oam).2.getLsbD j = false := by
  have hbits : ∀ b c : Bool, ((if b then 1 else 0) ||| (if c then 2 else 0) : BitVec 5).toNat < 2 ^ 2 := by decide
  have hlow : (p.tick len vram oam).2.toNat < 2 ^ 2 := by
    unfold Ppu.tick
    split
    · exact hbits _ _
    · exact (by decide : (0 : BitVec 5).toNat < 2 ^ 2)
  exact Nat.testBit_lt_two_pow (hlow.trans_le (Nat.pow_le_pow_right (by decide) hj))

theorem ppuTick_flags_getLsbD (s : State) (j : Nat) : s.ppuTick.irq.flags.getLsbD j =
    (s.irq.flags.getLsbD j || (s.ppu.tick s.mode3Len s.mem.vram s.mem.oam).2.getLsbD j) := by
  rw [ppuTick_spec, BitVec.getLsbD_or]

/-- A T-cycle's requests: the Timer's from its tick, and those of the PPU's. -/
theorem tCycle_flags_getLsbD (s : State) (j : Nat) : s.tCycle.irq.flags.getLsbD j =
    ((s.irq.flags.getLsbD j || (decide (j = 2) && (s.timer.tick s.params.timaReloadDelay).2)) ||
      (s.ppu.tick s.timerTick.mode3Len s.mem.vram s.mem.oam).2.getLsbD j) := by
  have hbit : (1#5 <<< 2).getLsbD j = decide (j = 2) := by
    by_cases hj : j < 5
    · interval_cases j <;> rfl
    · rw [BitVec.getLsbD_of_ge _ _ (by omega), decide_eq_false (by omega)]
  rw [tCycle_spec, BitVec.getLsbD_or, timerTick_spec]
  congr 1
  simp only
  split
  next h => rw [BitVec.getLsbD_or, hbit, h, Bool.and_true]
  next h => rw [Bool.eq_false_iff.mpr h, Bool.and_false, Bool.or_false]

/-- Any number of T-cycles change the timer, the PPU and IF alone. -/
theorem tCycles_eq (s : State) (n : Nat) : s.tCycles n = { s with
    ppu := (s.tCycles n).ppu, timer := (s.tCycles n).timer
    irq := { s.irq with flags := (s.tCycles n).irq.flags } } := by
  induction n with
  | zero => rfl
  | succ n ih =>
    rw [tCycles_succ, tCycle_spec]
    generalize s.tCycles n = u at *
    rw [ih]

/-- T-cycles clear no request. -/
theorem tCycles_flags_mono (s : State) (n j : Nat) (h : s.irq.flags.getLsbD j = true) :
    (s.tCycles n).irq.flags.getLsbD j = true := by
  induction n with
  | zero => exact h
  | succ n ih => rw [tCycles_succ, tCycle_flags_getLsbD, ih, Bool.true_or, Bool.true_or]

/-- T-cycles request no source past the Timer's. -/
theorem tCycles_flags_kept (s : State) (n : Nat) {j : Nat} (hj : 3 ≤ j) :
    (s.tCycles n).irq.flags.getLsbD j = s.irq.flags.getLsbD j := by
  induction n with
  | zero => rfl
  | succ n ih =>
    rw [tCycles_succ, tCycle_flags_getLsbD, tick_requests _ _ _ _ (by omega), ih, decide_eq_false (by omega),
      Bool.false_and, Bool.or_false, Bool.or_false]

end Sys2Proof.Machine

namespace Sys2Proof.Proofs

open Sys2Proof.Machine

/-- Settles O37: a tick's parts keep the registers, and its requests are the low bits of IF. -/
theorem ticksTouchOnlyTheirUnits : Obligations.TicksTouchOnlyTheirUnits := by
  unfold Obligations.TicksTouchOnlyTheirUnits
  intro s n
  obtain ⟨hlcdc, hstat, hscy, hscx, hlyc, hbgp, hobp0, hobp1, hwy, hwx⟩ :=
    registers_eq_iff.mp (tick_registers s.mode3Len s.mem.vram s.mem.oam s.ppu)
  refine ⟨⟨_, _, ppuTick_spec s, hlcdc, hstat, hscy, hscx, hlyc, hbgp, hobp0, hobp1, hwy, hwx, fun j hj => ?_⟩,
    _, _, _, tCycles_eq s n, fun j => tCycles_flags_mono s n j, fun j hj => tCycles_flags_kept s n hj⟩
  rw [BitVec.getLsbD_or, tick_requests _ _ _ _ hj, Bool.or_false]

end Sys2Proof.Proofs
end

section
/-! SUPPORT. The Timer Unit (60 R340-R344): when the timer's signal falls, what a tick then does, and the writes to its
registers. -/

namespace Sys2Proof.Machine

variable {t u : Timer} {delay n : Nat}

/-! ### The falling edge (60 R340) -/

/-- The next tick of the divider makes the timer's signal fall. -/
def Timer.falls (t : Timer) : Bool := timerSig t.div t.tac && !timerSig (t.div + 1) t.tac

/-- The T-cycles from one falling edge of the selected bit of the divider to the next. -/
def timerPeriod (tac : BitVec 3) : Nat := 2 ^ (timerBit tac + 1)

/-- The rates TAC selects. -/
theorem timerPeriod_eq {tac : BitVec 3} {period : Nat}
    (h : (tac.toNat % 4, period) ∈ [(0, 1024), (1, 16), (2, 64), (3, 256)]) : timerPeriod tac = period := by
  simp only [List.mem_cons, List.not_mem_nil, or_false, Prod.mk.injEq] at h
  unfold timerPeriod timerBit
  rcases h with ⟨h, rfl⟩ | ⟨h, rfl⟩ | ⟨h, rfl⟩ | ⟨h, rfl⟩ <;> rw [h] <;> rfl

theorem timerPeriod_cases (tac : BitVec 3) :
    timerPeriod tac = 16 ∨ timerPeriod tac = 64 ∨ timerPeriod tac = 256 ∨ timerPeriod tac = 1024 := by
  unfold timerPeriod timerBit
  split
  · exact .inr (.inr (.inr rfl))
  · exact .inl rfl
  · exact .inr (.inl rfl)
  · exact .inr (.inr (.inl rfl))

/-- A bit of the divider goes from 1 to 0 where the bits up to it are all 1. -/
theorem bit_falls_iff (d : Word) {b : Nat} (hb : b = 9 ∨ b = 3 ∨ b = 5 ∨ b = 7) :
    (d.getLsbD b = true ∧ (d + 1).getLsbD b = false) ↔ (d.toNat + 1) % 2 ^ (b + 1) = 0 := by
  have hd := d.isLt
  have hone : (1 : Word).toNat = 1 := rfl
  rw [BitVec.getLsbD, BitVec.getLsbD, BitVec.toNat_add, Nat.testBit_eq_decide_div_mod_eq,
    Nat.testBit_eq_decide_div_mod_eq, hone, decide_eq_true_iff, decide_eq_false_iff_not]
  rcases hb with rfl | rfl | rfl | rfl <;> omega

theorem falls_iff (t : Timer) :
    t.falls = true ↔ t.tac.getLsbD 2 = true ∧ (t.div.toNat + 1) % timerPeriod t.tac = 0 := by
  have hbit : timerBit t.tac = 9 ∨ timerBit t.tac = 3 ∨ timerBit t.tac = 5 ∨ timerBit t.tac = 7 := by
    unfold timerBit
    split <;> decide
  rw [timerPeriod, ← bit_falls_iff t.div hbit]
  unfold Timer.falls timerSig
  cases t.tac.getLsbD 2 <;> simp

/-- The edges after n T-cycles, counted from the divider before them. -/
theorem falls_after_iff (hdiv : u.div = t.div + BitVec.ofNat 16 n) (htac : u.tac = t.tac) :
    u.falls = true ↔ t.tac.getLsbD 2 = true ∧
      (t.div.toNat % timerPeriod t.tac + n + 1) % timerPeriod t.tac = 0 := by
  rw [falls_iff, htac, hdiv, BitVec.toNat_add, BitVec.toNat_ofNat]
  refine and_congr_right fun _ => ?_
  rcases timerPeriod_cases t.tac with h | h | h | h <;> rw [h] <;> omega

/-! ### One tick (60 R341, R343) -/

@[simp] theorem incTima_div (delay : Nat) (t : Timer) : (t.incTima delay).div = t.div := by
  unfold Timer.incTima
  split <;> rfl

theorem countReload_of_idle (h : t.reloadWait = 0) : t.countReload = (t, false) := if_pos h

theorem countReload_of_waiting (h : 1 < t.reloadWait) :
    t.countReload = ({ t with reloadWait := t.reloadWait - 1 }, false) := by
  unfold Timer.countReload
  rw [if_neg (by omega), if_neg (by omega)]

theorem countReload_of_last (h : t.reloadWait = 1) :
    t.countReload = ({ t with tima := t.tma, reloadWait := 0 }, true) := by
  unfold Timer.countReload
  rw [if_neg (by omega), if_pos h]

/-- The countdown leaves the divider, TMA and TAC. -/
theorem countReload_kept (t : Timer) :
    ∃ tima wait, t.countReload.1 = { t with tima := tima, reloadWait := wait } := by
  unfold Timer.countReload
  split_ifs <;> exact ⟨_, _, rfl⟩

/-- A tick counts the divider up, and clocks TIMA where the signal falls. -/
theorem tick_eq (delay : Nat) (t : Timer) : (t.tick delay).1 =
    if t.falls then ({ t.countReload.1 with div := t.div + 1 } : Timer).incTima delay
    else { t.countReload.1 with div := t.div + 1 } := by
  obtain ⟨tima, wait, h⟩ := countReload_kept t
  unfold Timer.tick Timer.setDiv Timer.falls
  simp only [h]

theorem tick_of_still (h : ¬t.falls = true) : (t.tick delay).1 = { t.countReload.1 with div := t.div + 1 } := by
  rw [tick_eq, if_neg h]

theorem tick_of_falls (h : t.falls = true) :
    (t.tick delay).1 = ({ t.countReload.1 with div := t.div + 1 } : Timer).incTima delay := by
  rw [tick_eq, if_pos h]

@[simp] theorem tick_div (delay : Nat) (t : Timer) : (t.tick delay).1.div = t.div + 1 := by
  rw [tick_eq]
  split
  · rw [incTima_div]
  · rfl

theorem add_ofNat_zero (d : Word) : d + BitVec.ofNat 16 0 = d := BitVec.add_zero d

theorem add_ofNat_succ (d : Word) (n : Nat) : d + BitVec.ofNat 16 n + 1 = d + BitVec.ofNat 16 (n + 1) := by
  rw [BitVec.add_assoc, BitVec.ofNat_add]
  rfl

/-! ### Many ticks -/

theorem tCycles_timer_succ (s : State) (n : Nat) :
    (s.tCycles (n + 1)).timer = ((s.tCycles n).timer.tick s.params.timaReloadDelay).1 := by
  rw [tCycles_timer, tCycles_timer, Function.iterate_succ_apply']

theorem tCycles_div (s : State) (n : Nat) : (s.tCycles n).timer.div = s.timer.div + BitVec.ofNat 16 n := by
  induction n with
  | zero => exact (add_ofNat_zero _).symm
  | succ n ih => rw [tCycles_timer_succ, tick_div, ih, add_ofNat_succ]

/-- With the timer off and no reload waiting the divider alone moves. -/
theorem tCycles_timer_off {s : State} (hidle : s.timer.reloadWait = 0) (hoff : s.timer.tac.getLsbD 2 = false)
    (n : Nat) : (s.tCycles n).timer = { s.timer with div := s.timer.div + BitVec.ofNat 16 n } := by
  induction n with
  | zero =>
    rw [add_ofNat_zero]
    rfl
  | succ n ih =>
    have hstill : ¬(s.tCycles n).timer.falls = true := by
      rw [falls_iff, ih, hoff]
      exact fun h => nomatch h.1
    rw [tCycles_timer_succ, tick_of_still hstill, countReload_of_idle (by rw [ih]; exact hidle), ih, add_ofNat_succ]

/-- Below twice its value a number's one positive multiple is itself. -/
theorem mod_eq_zero_iff_eq {a m : Nat} (hpos : 0 < a) (hlt : a < 2 * m) : a % m = 0 ↔ a = m := by
  rcases Nat.lt_or_ge a m with h | h
  · rw [Nat.mod_eq_of_lt h]
    omega
  · rw [Nat.mod_eq_sub_mod h, Nat.mod_eq_of_lt (by omega)]
    omega

/-- With the timer on, no reload waiting and TIMA not 0xFF, one edge in the first period clocks TIMA. -/
theorem tCycles_timer_on {s : State} (hidle : s.timer.reloadWait = 0) (hon : s.timer.tac.getLsbD 2 = true)
    (htima : s.timer.tima ≠ 0xFF) (hn : n ≤ timerPeriod s.timer.tac) :
    (s.tCycles n).timer = { s.timer with
      div := s.timer.div + BitVec.ofNat 16 n
      tima := if timerPeriod s.timer.tac ≤ s.timer.div.toNat % timerPeriod s.timer.tac + n then s.timer.tima + 1
        else s.timer.tima } := by
  have hphase : s.timer.div.toNat % timerPeriod s.timer.tac < timerPeriod s.timer.tac :=
    Nat.mod_lt _ (by unfold timerPeriod; positivity)
  induction n with
  | zero =>
    rw [if_neg (by omega), add_ofNat_zero]
    rfl
  | succ n ih =>
    replace ih := ih (by omega)
    have hfalls := falls_after_iff (u := (s.tCycles n).timer) (tCycles_div s n) (by rw [ih])
    rw [and_iff_right hon, mod_eq_zero_iff_eq (by omega) (by omega)] at hfalls
    rw [tCycles_timer_succ]
    generalize (s.tCycles n).timer = u at *
    generalize hperiod : timerPeriod s.timer.tac = period at *
    generalize s.timer.div.toNat % period = phase at *
    have hreload : u.countReload = (u, false) := countReload_of_idle (by rw [ih]; exact hidle)
    by_cases hedge : phase + n + 1 = period
    · rw [if_neg (by omega)] at ih
      rw [tick_of_falls (hfalls.mpr hedge), hreload, if_pos (by omega), ih]
      unfold Timer.incTima
      rw [if_neg htima, add_ofNat_succ]
    · rw [tick_of_still (hfalls.not.mpr hedge), hreload, ih, add_ofNat_succ]
      have hsame : period ≤ phase + n ↔ period ≤ phase + (n + 1) := by omega
      simp only [hsame]

/-- A T-cycle requests the Timer interrupt where the countdown ends. -/
theorem tCycle_timerRequest (s : State) :
    s.tCycle.irq.flags.getLsbD 2 = (s.irq.flags.getLsbD 2 || s.timer.countReload.2) := by
  rw [tCycle_flags_getLsbD, tick_requests _ _ _ _ (le_refl 2), Bool.or_false]
  rfl

/-! ### The reload after an overflow (60 R341, R343) -/

section

variable {s : State} {j : Nat} (hfall : s.timer.falls = true) (hdelay : s.params.timaReloadDelay < 16)
  (hidle : s.timer.reloadWait = 0) (htima : s.timer.tima = 0xFF)

include hfall hdelay

/-- The next edge after an overflow is a period away, past the reload. -/
theorem not_falls_after_overflow (htac : (s.tCycles (1 + j)).timer.tac = s.timer.tac)
    (hj : j < s.params.timaReloadDelay) : ¬(s.tCycles (1 + j)).timer.falls = true := by
  rw [falls_after_iff (tCycles_div s (1 + j)) htac]
  obtain ⟨-, hphase⟩ := (falls_iff _).mp hfall
  rintro ⟨-, hphase'⟩
  rcases timerPeriod_cases s.timer.tac with h | h | h | h <;> rw [h] at hphase hphase' <;> omega

include hidle htima

/-- For the delay after the overflow TIMA is 0 and the countdown runs: the next edge is a period away. -/
theorem tCycles_reloading (hj : j < s.params.timaReloadDelay) :
    (s.tCycles (1 + j)).timer = { s.timer with
        div := s.timer.div + BitVec.ofNat 16 (1 + j), tima := 0, reloadWait := s.params.timaReloadDelay - j } ∧
      (s.tCycles (1 + j)).irq.flags.getLsbD 2 = s.irq.flags.getLsbD 2 := by
  induction j with
  | zero =>
    have hreload := countReload_of_idle hidle
    refine ⟨?_, ?_⟩
    · rw [tCycles_timer_succ, show s.tCycles 0 = s from rfl, tick_of_falls hfall, hreload]
      exact if_pos htima
    · show s.tCycle.irq.flags.getLsbD 2 = _
      rw [tCycle_timerRequest, hreload, Bool.or_false]
  | succ j ih =>
    obtain ⟨htimer, hflag⟩ := ih (by omega)
    have hreload : (s.tCycles (1 + j)).timer.countReload =
        ({ (s.tCycles (1 + j)).timer with reloadWait := (s.tCycles (1 + j)).timer.reloadWait - 1 }, false) :=
      countReload_of_waiting (by rw [htimer]; show 1 < s.params.timaReloadDelay - j; omega)
    refine ⟨?_, ?_⟩
    · have hstill := not_falls_after_overflow hfall hdelay (j := j) (by rw [htimer]) (by omega)
      rw [← Nat.add_assoc, tCycles_timer_succ, tick_of_still hstill,
        hreload, htimer, add_ofNat_succ, Nat.sub_sub]
    · rw [← Nat.add_assoc, tCycles_succ, tCycle_timerRequest, hreload, Bool.or_false, hflag]

/-- The delay's last T-cycle loads TIMA from TMA and requests the Timer interrupt. -/
theorem tCycles_reloaded (hpos : 0 < s.params.timaReloadDelay) :
    (s.tCycles (1 + s.params.timaReloadDelay)).timer.tima = s.timer.tma ∧
      (s.tCycles (1 + s.params.timaReloadDelay)).irq.flags.getLsbD 2 = true := by
  obtain ⟨d, hd⟩ : ∃ d, s.params.timaReloadDelay = d + 1 := ⟨s.params.timaReloadDelay - 1, by omega⟩
  obtain ⟨htimer, -⟩ := tCycles_reloading hfall hdelay hidle htima (j := d) (by omega)
  have hstill := not_falls_after_overflow hfall hdelay (j := d) (by rw [htimer]) (by omega)
  have hreload : (s.tCycles (1 + d)).timer.countReload =
      ({ (s.tCycles (1 + d)).timer with tima := (s.tCycles (1 + d)).timer.tma, reloadWait := 0 }, true) :=
    countReload_of_last (by rw [htimer]; show s.params.timaReloadDelay - d = 1; omega)
  rw [hd, ← Nat.add_assoc]
  refine ⟨?_, ?_⟩
  · rw [tCycles_timer_succ, tick_of_still hstill, hreload, htimer]
  · rw [tCycles_succ, tCycle_timerRequest, hreload, Bool.or_true]

end

/-! ### The writes (60 R342, R344) -/

/-- One clock of TIMA, or none, of a timer that has TIMA, TMA and the countdown of `t` (60 R343). -/
theorem timaClocked_incTima (edge : Bool) (htima : u.tima = t.tima) (htma : u.tma = t.tma)
    (hwait : u.reloadWait = t.reloadWait) :
    TimaClocked delay edge t (if edge then u.incTima delay else u) := by
  unfold TimaClocked Timer.incTima
  rw [htima]
  cases edge
  · exact ⟨htma, htima, hwait⟩
  · simp only [if_true]
    split_ifs
    · exact ⟨htma, rfl, rfl⟩
    · exact ⟨htma, rfl, hwait⟩

theorem timerSig_zero (tac : BitVec 3) : timerSig 0 tac = false := by
  have hbit : (0 : Word).getLsbD (timerBit tac) = false := BitVec.getLsbD_zero
  rw [timerSig, hbit, Bool.and_false]

/-- The signal falls by the reset of the divider exactly where it was 1. -/
theorem resetDiv_clocked (delay : Nat) (t : Timer) :
    TimaClocked delay (timerSig t.div t.tac) t (t.resetDiv delay) := by
  have h := timaClocked_incTima (t := t) (u := { t with div := 0 }) (delay := delay) (timerSig t.div t.tac)
    rfl rfl rfl
  unfold Timer.resetDiv Timer.setDiv
  rwa [timerSig_zero, Bool.not_false, Bool.and_true]

theorem writeTac_clocked (delay : Nat) (t : Timer) (v : Byte) :
    TimaClocked delay (timerSig t.div t.tac && !timerSig t.div (v.setWidth 3)) t (t.writeTac delay v) :=
  timaClocked_incTima (t := t) (u := { t with tac := v.setWidth 3 }) (delay := delay) _ rfl rfl rfl

end Sys2Proof.Machine

namespace Sys2Proof.Proofs

open Sys2Proof.Machine

/-- Settles O26: one edge falls in each period, which `tCycles_timer_on` counts from the phase of the divider. -/
theorem timaCountsDividerEdges : Obligations.TimaCountsDividerEdges := by
  unfold Obligations.TimaCountsDividerEdges
  refine fun s => ⟨tCycles_div s, fun hidle hoff n => by rw [tCycles_timer_off hidle hoff],
    fun hidle hon htima period hperiod => ?_⟩
  have htimer := tCycles_timer_on hidle hon htima (le_refl _)
  rw [timerPeriod_eq hperiod, if_pos (Nat.le_add_left _ _)] at htimer
  rw [htimer]
  exact ⟨rfl, hidle⟩

/-- Settles O27: the overflow's edge, the countdown and its last T-cycle, with no edge in the delay. -/
theorem timaReloadsAfterTheDelay : Obligations.TimaReloadsAfterTheDelay := by
  unfold Obligations.TimaReloadsAfterTheDelay
  intro s hpos hdelay hidle htima hhigh hlow
  have hfall : s.timer.falls = true := by
    unfold Timer.falls
    rw [hhigh, hlow]
    rfl
  refine ⟨fun j hj => ?_, tCycles_reloaded hfall hdelay hidle htima hpos⟩
  obtain ⟨htimer, hflag⟩ := tCycles_reloading hfall hdelay hidle htima hj
  exact ⟨by rw [htimer], hflag⟩

/-- Settles O28: each write is its register's through the address map, and STOP's timer that of a write to DIV. -/
theorem timerRegisterWrites : Obligations.TimerRegisterWrites := by
  unfold Obligations.TimerRegisterWrites
  intro s v d
  obtain ⟨divTima, divWait, hdiv⟩ := resetDiv_kept d s.timer
  obtain ⟨tacTima, tacWait, htac⟩ := writeTac_kept d s.timer v
  refine ⟨⟨s.timer.resetDiv d, write8_div s v, resetDiv_div d s.timer, by rw [hdiv], resetDiv_clocked d s.timer⟩,
    ⟨stopCpu s, rfl, by rw [stopCpu_eq]⟩,
    ⟨s.timer.writeTac d v, write8_io s v .tac rfl rfl, by rw [htac], ?_, ?_⟩,
    write8_io s v .tima rfl rfl, write8_io s v .tma rfl rfl⟩
  · rw [htac]
    exact BitVec.toNat_setWidth 3 v
  · have hclocked := writeTac_clocked d s.timer v
    rwa [show v.setWidth 3 = (s.timer.writeTac d v).tac by rw [htac]] at hclocked

end Sys2Proof.Proofs
end

section
/-! SUPPORT. The PPU's dots (65 R371-R377): what one dot of the beam does, said once; from it the beam's path, the modes
of a line, the VBlank entry and the window's state. -/

namespace Sys2Proof.Machine

variable {p : Ppu} {len : Ppu → Nat} {vram oam : Memory}

theorem Ppu.sound_of_inv (h : p.inv = true) : p.Sound := ((Ppu.inv_iff p).mp h).1

/-! ### One dot of the beam (65 R377) -/

/-- What a dot does to the counters and the mode, and whether it requests VBlank: it starts a line (the frame's first, a
visible one, the first of VBlank or a later one), starts Drawing or HBlank on a visible line, or counts alone. -/
inductive DotEffect (len : Ppu → Nat) (oam : Memory) (p : Ppu) : Ppu × Bool → Prop
  | wrap (hly : p.ly = 153) (hdot : p.dot = 455) : DotEffect len oam p
      ({ p with dot := 0, ly := 0, wyHit := false, winLine := 0, mode := .oamScan }, false)
  | visible (hly : p.ly < 143) (hdot : p.dot = 455) : DotEffect len oam p
      ({ p with dot := 0, ly := p.ly + 1, mode := .oamScan }, false)
  | vblank (hly : p.ly = 143) (hdot : p.dot = 455) : DotEffect len oam p
      ({ p with dot := 0, ly := 144, mode := .vblank, front := p.back }, true)
  | hidden (hfirst : 144 ≤ p.ly) (hlast : p.ly < 153) (hdot : p.dot = 455) : DotEffect len oam p
      ({ p with dot := 0, ly := p.ly + 1 }, false)
  | drawing (hly : p.ly < 144) (hdot : p.dot = 79) : DotEffect len oam p
      (Ppu.startDrawing len oam { p with dot := 80 }, false)
  | hblank (hly : p.ly < 144) (hdot : p.dot + 1 = 80 + p.drawLen) : DotEffect len oam p
      (Ppu.startHblank { p with dot := p.dot + 1 }, false)
  | count (hdot : p.dot + 1 < 456) (hscan : ¬(p.ly < 144 ∧ p.dot + 1 = 80))
      (hdraw : ¬(p.ly < 144 ∧ p.dot + 1 = 80 + p.drawLen)) : DotEffect len oam p ({ p with dot := p.dot + 1 }, false)

theorem nextLine_effect (hly : p.ly < 154) (hdot : p.dot = 455) :
    DotEffect len oam p (Ppu.nextLine { p with dot := p.dot + 1 }) := by
  unfold Ppu.nextLine
  simp only
  split_ifs with hwrap hvisible hentry
  · rw [hwrap]
    exact .wrap (by omega) hdot
  · rw [show (p.ly + 1) % 154 = p.ly + 1 by omega]
    exact .visible (by omega) hdot
  · rw [hentry]
    exact .vblank (by omega) hdot
  · rw [show (p.ly + 1) % 154 = p.ly + 1 by omega]
    exact .hidden (by omega) (by omega) hdot

theorem moveDot_effect (h : p.Sound) (len : Ppu → Nat) (oam : Memory) : DotEffect len oam p (p.moveDot len oam) := by
  have hdot := h.dot_lt
  unfold Ppu.moveDot
  simp only
  split_ifs with hend hscan hdraw
  · exact nextLine_effect h.ly_lt (by omega)
  · rw [hscan.2]
    exact .drawing hscan.1 (by omega)
  · exact .hblank hdraw.1 hdraw.2
  · exact .count (by omega) hscan hdraw

/-- A pixel sets its cell of the back frame and may mark the line, and changes nothing else. -/
theorem drawDot_kept (vram oam : Memory) (p : Ppu) : ∃ winDrawn back,
    p.drawDot vram oam = { p with winDrawn := winDrawn, back := back } := by
  unfold Ppu.drawDot
  split
  · exact ⟨_, _, rfl⟩
  · exact ⟨_, _, rfl⟩

theorem tick_of_off (hoff : p.lcdOn = false) : p.tick len vram oam = (p, 0) :=
  if_neg (by rw [hoff]; decide)

/-- With the LCD on a tick moves the beam, draws, and evaluates the STAT line. -/
theorem tick_of_on (hon : p.lcdOn = true) :
    (p.tick len vram oam).1 = ((p.moveDot len oam).1.drawDot vram oam).updateStat.1 := by
  unfold Ppu.tick
  rw [if_pos hon]

/-- Of what the beam's move leaves, the pixel and the STAT line touch three fields. -/
theorem tick_kept (hon : p.lcdOn = true) : ∃ winDrawn back statLine, (p.tick len vram oam).1 =
    { (p.moveDot len oam).1 with winDrawn := winDrawn, back := back, statLine := statLine } := by
  obtain ⟨winDrawn, back, h⟩ := drawDot_kept vram oam (p.moveDot len oam).1
  rw [tick_of_on hon, h]
  exact ⟨_, _, _, rfl⟩

/-- VBlank is bit 0 of a tick's requests and LCD-STAT bit 1 (60 R312). -/
theorem tick_requests_of_on (hon : p.lcdOn = true) :
    (p.tick len vram oam).2.getLsbD 0 = (p.moveDot len oam).2 ∧
      (p.tick len vram oam).2.getLsbD 1 = ((p.moveDot len oam).1.drawDot vram oam).updateStat.2 := by
  have hbits : ∀ b c : Bool, ((if b then 1 else 0) ||| (if c then 2 else 0) : BitVec 5).getLsbD 0 = b ∧
      ((if b then 1 else 0) ||| (if c then 2 else 0) : BitVec 5).getLsbD 1 = c := by decide
  unfold Ppu.tick
  rw [if_pos hon]
  exact hbits _ _

/-- A tick with the LCD on: one of the beam's effects, with its VBlank request. -/
theorem tick_effect (len : Ppu → Nat) (vram oam : Memory) (h : p.Sound) (hon : p.lcdOn = true) :
    ∃ m winDrawn back statLine, DotEffect len oam p m ∧
      (p.tick len vram oam).1 = { m.1 with winDrawn := winDrawn, back := back, statLine := statLine } ∧
      (p.tick len vram oam).2.getLsbD 0 = m.2 := by
  obtain ⟨winDrawn, back, statLine, htick⟩ := tick_kept (len := len) (vram := vram) (oam := oam) hon
  exact ⟨p.moveDot len oam, winDrawn, back, statLine, moveDot_effect h len oam, htick, (tick_requests_of_on hon).1⟩

theorem lcdOn_of_registers {p q : Ppu} (h : q.registers = p.registers) : q.lcdOn = p.lcdOn := by
  unfold Ppu.lcdOn
  rw [(registers_eq_iff.mp h).1]

@[simp] theorem tick_lcdOn (p : Ppu) : (p.tick len vram oam).1.lcdOn = p.lcdOn :=
  lcdOn_of_registers (tick_registers len vram oam p)

/-! ### The beam's path (65 R371, R374) -/

/-- The dots from the start of the frame. -/
def Ppu.beam (p : Ppu) : Nat := 456 * p.ly + p.dot

theorem tick_beam (h : p.Sound) (hon : p.lcdOn = true) :
    (p.tick len vram oam).1.beam = (p.beam + 1) % 70224 := by
  obtain ⟨m, winDrawn, back, statLine, heffect, htick, -⟩ := tick_effect len vram oam h hon
  have hly := h.ly_lt
  have hlt := h.dot_lt
  rw [htick]
  unfold Ppu.beam
  cases heffect <;> simp only [Ppu.startDrawing, Ppu.startHblank] <;> omega

/-- The Drawing length is set at dot 80 of a visible line alone (65 R383). -/
theorem tick_drawLen (h : p.Sound) (hon : p.lcdOn = true) (hscan : ¬(p.ly < 144 ∧ p.dot = 79)) :
    (p.tick len vram oam).1.drawLen = p.drawLen := by
  obtain ⟨m, winDrawn, back, statLine, heffect, htick, -⟩ := tick_effect len vram oam h hon
  rw [htick]
  cases heffect
  case drawing hly hdot => exact absurd ⟨hly, hdot⟩ hscan
  all_goals rfl

/-! ### Many dots -/

section

variable {s : State} (hinv : s.ppu.inv = true) (hon : s.ppu.lcdOn = true)

include hinv hon

theorem tCycles_ppu_inv (n : Nat) : (s.tCycles n).ppu.inv = true ∧ (s.tCycles n).ppu.lcdOn = true := by
  induction n with
  | zero => exact ⟨hinv, hon⟩
  | succ n ih =>
    obtain ⟨len, hlen, hppu⟩ := tCycles_ppu s n
    rw [hppu, tick_lcdOn]
    exact ⟨tick_inv ih.1 hlen, ih.2⟩

theorem tCycles_ppu_sound (n : Nat) : (s.tCycles n).ppu.Sound :=
  Ppu.sound_of_inv (tCycles_ppu_inv hinv hon n).1

theorem tCycles_ppu_lcdOn (n : Nat) : (s.tCycles n).ppu.lcdOn = true := (tCycles_ppu_inv hinv hon n).2

theorem tCycles_beam (n : Nat) : (s.tCycles n).ppu.beam = (s.ppu.beam + n) % 70224 := by
  induction n with
  | zero =>
    have hly := (Ppu.sound_of_inv hinv).ly_lt
    have hdot := (Ppu.sound_of_inv hinv).dot_lt
    refine (Nat.mod_eq_of_lt ?_).symm
    show 456 * s.ppu.ly + s.ppu.dot < 70224
    omega
  | succ n ih =>
    obtain ⟨len, -, hppu⟩ := tCycles_ppu s n
    rw [hppu, tick_beam (tCycles_ppu_sound hinv hon n) (tCycles_ppu_lcdOn hinv hon n), ih]
    omega

/-- The line and the dot after n T-cycles. -/
theorem tCycles_ly_dot (n : Nat) : (s.tCycles n).ppu.ly < 154 ∧ (s.tCycles n).ppu.dot < 456 ∧
    456 * (s.tCycles n).ppu.ly + (s.tCycles n).ppu.dot = (456 * s.ppu.ly + s.ppu.dot + n) % 70224 :=
  ⟨(tCycles_ppu_sound hinv hon n).ly_lt, (tCycles_ppu_sound hinv hon n).dot_lt, tCycles_beam hinv hon n⟩

theorem tCycles_mode (n : Nat) :
    (s.tCycles n).ppu.mode = modeAt (s.tCycles n).ppu.ly (s.tCycles n).ppu.dot (s.tCycles n).ppu.drawLen :=
  (tCycles_ppu_sound hinv hon n).mode_on (tCycles_ppu_lcdOn hinv hon n)

variable (hstart : s.ppu.dot = 0)

include hstart

/-- The dots of a line, from its first. -/
theorem tCycles_in_line {n : Nat} (hn : n < 456) : (s.tCycles n).ppu.ly = s.ppu.ly ∧ (s.tCycles n).ppu.dot = n := by
  have hly := (Ppu.sound_of_inv hinv).ly_lt
  obtain ⟨hly', hdot', hbeam⟩ := tCycles_ly_dot hinv hon n
  omega

/-- After its 456 dots the next line begins. -/
theorem tCycles_line : (s.tCycles 456).ppu.ly = (s.ppu.ly + 1) % 154 ∧ (s.tCycles 456).ppu.dot = 0 := by
  have hly := (Ppu.sound_of_inv hinv).ly_lt
  obtain ⟨hly', hdot', hbeam⟩ := tCycles_ly_dot hinv hon 456
  omega

/-- From dot 80 to its end a line keeps its Drawing length. -/
theorem tCycles_drawLen {n : Nat} (hfirst : 80 ≤ n) (hn : n < 456) :
    (s.tCycles n).ppu.drawLen = (s.tCycles 80).ppu.drawLen := by
  induction n, hfirst using Nat.le_induction with
  | base => rfl
  | succ n hfirst ih =>
    obtain ⟨-, hdot⟩ := tCycles_in_line hinv hon hstart (n := n) (by omega)
    obtain ⟨len, -, hppu⟩ := tCycles_ppu s n
    rw [hppu, tick_drawLen (tCycles_ppu_sound hinv hon n) (tCycles_ppu_lcdOn hinv hon n) (by omega), ih (by omega)]

/-- The modes of a line's dots, by the Drawing length its dot 80 sets (65 R373). -/
theorem tCycles_line_mode {n : Nat} (hn : n < 456) :
    (s.tCycles n).ppu.mode = modeAt s.ppu.ly n (s.tCycles 80).ppu.drawLen := by
  obtain ⟨hly, hdot⟩ := tCycles_in_line hinv hon hstart hn
  rw [tCycles_mode hinv hon n, hly, hdot]
  by_cases hfirst : 80 ≤ n
  · rw [tCycles_drawLen hinv hon hstart hfirst hn]
  · unfold modeAt
    rw [if_pos (show n < 80 by omega), if_pos (show n < 80 by omega)]

end

end Sys2Proof.Machine

namespace Sys2Proof.Proofs

open Sys2Proof.Machine

/-- Settles O29: each dot moves the beam by one, modulo the frame's 70224. -/
theorem beamMovesOneDotPerCycle : Obligations.BeamMovesOneDotPerCycle := by
  unfold Obligations.BeamMovesOneDotPerCycle
  exact fun s n hinv hon => tCycles_ly_dot hinv hon n

/-- Settles O30: the mode is the function of line, dot and Drawing length 65 R372 gives, and the length is set at dot 80
alone. -/
theorem lineModes : Obligations.LineModes := by
  unfold Obligations.LineModes
  intro s hinv hon hstart
  have hmode {n : Nat} (hn : n < 456) := tCycles_line_mode hinv hon hstart hn
  have hnext := tCycles_mode hinv hon 456
  obtain ⟨hly, hdot⟩ := tCycles_line hinv hon hstart
  rw [hly, hdot] at hnext
  have hsound := tCycles_ppu_sound hinv hon 80
  refine ⟨fun hvisible => ⟨(s.tCycles 80).ppu.drawLen, hsound.le_drawLen, hsound.drawLen_le, fun n hn => ?_, ?_⟩,
    fun hhidden => ⟨fun n hn => ?_, fun hlast => ?_⟩⟩
  · rw [hmode hn, modeAt, if_neg (by omega)]
  · rw [hnext]
    split
    next hlast => exact modeAt_vblank (by omega) _ _
    next hlast => exact modeAt_oamScan (by omega) (by decide) _
  · rw [hmode hn, modeAt_vblank hhidden]
  · rw [hnext, hly, hlast]
    exact ⟨rfl, rfl⟩

end Sys2Proof.Proofs
end

section
/-! SUPPORT. The PPU's interrupts and the LCD switch (65 R375, R378, R398): the requests of a dot, the STAT line by its
sources, and LCDC's write. -/

namespace Sys2Proof.Machine

variable {p : Ppu} {len : Ppu → Nat} {vram oam : Memory} {s : State}

/-! ### The requests of a dot (65 R375, R378) -/

/-- The dot that enters line 144 publishes the frame and requests VBlank. -/
theorem tick_enters_vblank (h : p.Sound) (hon : p.lcdOn = true) (hly : p.ly = 143) (hdot : p.dot = 455) :
    (p.tick len vram oam).1.ly = 144 ∧ (p.tick len vram oam).1.mode = .vblank ∧
      (p.tick len vram oam).1.front = p.back ∧ (p.tick len vram oam).2.getLsbD 0 = true := by
  obtain ⟨m, winDrawn, back, statLine, heffect, htick, hrequest⟩ := tick_effect len vram oam h hon
  have hdraw := h.drawLen_le
  rw [hrequest, htick]
  cases heffect
  case vblank => exact ⟨rfl, rfl, rfl, rfl⟩
  all_goals omega

/-- No other dot does. -/
theorem tick_front_of_not_vblank (h : p.Sound) (hentry : ¬(p.lcdOn = true ∧ p.ly = 143 ∧ p.dot = 455)) :
    (p.tick len vram oam).1.front = p.front ∧ (p.tick len vram oam).2.getLsbD 0 = false := by
  cases hon : p.lcdOn
  case false =>
    rw [tick_of_off hon]
    exact ⟨rfl, BitVec.getLsbD_zero⟩
  case true =>
    obtain ⟨m, winDrawn, back, statLine, heffect, htick, hrequest⟩ := tick_effect len vram oam h hon
    rw [hrequest, htick]
    cases heffect
    case vblank hly hdot => exact absurd ⟨hon, hly, hdot⟩ hentry
    all_goals exact ⟨rfl, rfl⟩

/-! ### The STAT line (65 R378; 10 R43) -/

/-- STAT's source enables, as they are read. -/
theorem bitOf_readStat (p : Ppu) :
    bitOf p.readStat 6 = p.stat.getLsbD 3 ∧ bitOf p.readStat 5 = p.stat.getLsbD 2 ∧
      bitOf p.readStat 4 = p.stat.getLsbD 1 ∧ bitOf p.readStat 3 = p.stat.getLsbD 0 := by
  have hbits : ∀ (stat : BitVec 4) (c : Bool),
      let r := 0x80 ||| (stat.setWidth 8 <<< 3) ||| bitAt c 2
      ∀ code ∈ [(0 : Byte), 1, 2, 3], bitOf (r ||| code) 6 = stat.getLsbD 3 ∧ bitOf (r ||| code) 5 = stat.getLsbD 2 ∧
        bitOf (r ||| code) 4 = stat.getLsbD 1 ∧ bitOf (r ||| code) 3 = stat.getLsbD 0 := by decide +kernel
  exact hbits p.stat p.coincidence p.mode.code (by cases p.mode <;> decide)

/-- The line is the LCD enable and the OR of the enabled sources. -/
theorem statLevel_iff (p : Ppu) : p.statLevel = true ↔
    bitOf p.lcdc 7 = true ∧
      ((bitOf p.readStat 6 = true ∧ p.ly = p.lyc.toNat) ∨ (bitOf p.readStat 5 = true ∧ p.mode = .oamScan) ∨
        (bitOf p.readStat 4 = true ∧ p.mode = .vblank) ∨ (bitOf p.readStat 3 = true ∧ p.mode = .hblank)) := by
  obtain ⟨h6, h5, h4, h3⟩ := bitOf_readStat p
  rw [h6, h5, h4, h3]
  simp only [Ppu.statLevel, Ppu.lcdOn, Ppu.coincidence, Bool.and_eq_true, Bool.or_eq_true, decide_eq_true_iff,
    or_assoc]

theorem statLevel_of_off (hoff : p.lcdOn = false) : p.statLevel = false := by
  rw [Ppu.statLevel, hoff, Bool.false_and]

/-- At the first dot of a frame the OAM scan and the coincidence with line 0 are the sources. -/
theorem statLevel_of_restart (hon : p.lcdOn = true) (hly : p.ly = 0) (hmode : p.mode = .oamScan) :
    p.statLevel = true ↔ p.stat.getLsbD 2 = true ∨ (p.stat.getLsbD 3 = true ∧ p.lyc = 0) := by
  have hcoincidence : 0 = p.lyc.toNat ↔ p.lyc = 0 := by
    rw [← BitVec.toNat_inj]
    exact eq_comm
  unfold Ppu.statLevel Ppu.coincidence
  rw [hon, hly, hmode]
  simp [hcoincidence, or_comm]

/-- A PPU replaced and its STAT line evaluated, with LCD-STAT requested where the line rises. -/
theorem setPpuAndStat_eq (s : State) (p : Ppu) : s.setPpuAndStat p = { s with
    ppu := { p with statLine := p.statLevel }
    irq := { s.irq with flags := if p.statLevel && !p.statLine then s.irq.flags ||| 2 else s.irq.flags } } := by
  unfold State.setPpuAndStat Ppu.updateStat State.requestIf
  simp only
  split <;> rfl

theorem setPpuAndStat_statRequest (s : State) (p : Ppu) :
    (s.setPpuAndStat p).irq.flags.getLsbD 1 = (s.irq.flags.getLsbD 1 || (p.statLevel && !p.statLine)) := by
  rw [setPpuAndStat_eq]
  simp only
  cases p.statLevel && !p.statLine
  · exact (Bool.or_false _).symm
  · rw [if_pos rfl, BitVec.getLsbD_or]
    rfl

/-- The beam's move and the pixel leave the STAT line for its evaluation. -/
theorem drawDot_moveDot_statLine (len : Ppu → Nat) (vram oam : Memory) (p : Ppu) :
    ((p.moveDot len oam).1.drawDot vram oam).statLine = p.statLine := by
  obtain ⟨winDrawn, back, hdraw⟩ := drawDot_kept vram oam (p.moveDot len oam).1
  rw [hdraw]
  unfold Ppu.moveDot Ppu.nextLine
  simp only
  split_ifs <;> rfl

/-- The STAT line after a dot or a write is its level, and LCD-STAT is requested where it rose. -/
def StatEvaluated (s t : State) : Prop :=
  t.ppu.statLine = t.ppu.statLevel ∧
    t.irq.flags.getLsbD 1 = (s.irq.flags.getLsbD 1 || (t.ppu.statLine && !s.ppu.statLine))

theorem setPpuAndStat_evaluated {q : Ppu} (h : q.statLine = s.ppu.statLine) : StatEvaluated s (s.setPpuAndStat q) := by
  refine ⟨by rw [setPpuAndStat_eq]; rfl, ?_⟩
  rw [setPpuAndStat_statRequest, h, setPpuAndStat_ppu]
  rfl

theorem ppuTick_evaluated (hon : s.ppu.lcdOn = true) : StatEvaluated s s.ppuTick := by
  have hppu : s.ppuTick.ppu = (s.ppu.tick s.mode3Len s.mem.vram s.mem.oam).1 := rfl
  have hline := drawDot_moveDot_statLine s.mode3Len s.mem.vram s.mem.oam s.ppu
  obtain ⟨-, hrequest⟩ := tick_requests_of_on (len := s.mode3Len) (vram := s.mem.vram) (oam := s.mem.oam) hon
  unfold StatEvaluated
  rw [ppuTick_flags_getLsbD, hrequest, hppu, tick_of_on hon, ← hline]
  exact ⟨rfl, rfl⟩

/-! ### LCDC's write (65 R398) -/

theorem writeLcdc_off (hon : bitOf p.lcdc 7 = true) {v : Byte} (hv : bitOf v 7 = false) : p.writeLcdc v =
    { p with lcdc := v, ly := 0, dot := 0, mode := .hblank, statLine := false } := by
  unfold Ppu.writeLcdc Ppu.lcdOn
  simp only
  rw [hon, hv]
  rfl

theorem writeLcdc_on (hoff : bitOf p.lcdc 7 = false) {v : Byte} (hv : bitOf v 7 = true) : p.writeLcdc v =
    { p with
      lcdc := v, ly := 0, dot := 0, mode := .oamScan, wyHit := false, winLine := 0, objs := [], drawLen := 172 } := by
  unfold Ppu.writeLcdc Ppu.lcdOn
  simp only
  rw [hoff, hv]
  rfl

theorem writeLcdc_same {v : Byte} (hsame : bitOf p.lcdc 7 = bitOf v 7) : p.writeLcdc v = { p with lcdc := v } := by
  unfold Ppu.writeLcdc Ppu.lcdOn
  simp only
  rw [hsame]
  cases bitOf v 7 <;> rfl

theorem write8_lcdc (s : State) (v : Byte) : s.write8 0xFF40 v = s.setPpuAndStat (s.ppu.writeLcdc v) :=
  write8_io s v .lcdc rfl rfl

theorem write8_lcdc_off (hon : bitOf s.ppu.lcdc 7 = true) {v : Byte} (hv : bitOf v 7 = false) :
    s.write8 0xFF40 v = { s with
      ppu := { s.ppu with lcdc := v, ly := 0, dot := 0, mode := .hblank, statLine := false } } := by
  rw [write8_lcdc, writeLcdc_off hon hv, setPpuAndStat_eq, statLevel_of_off (by exact hv)]
  rfl

/-- With bit 7 kept the STAT line's sources are as they were, so its evaluation changes nothing (log entry 25). -/
theorem write8_lcdc_same (hline : s.ppu.statLine = s.ppu.statLevel) {v : Byte}
    (hsame : bitOf s.ppu.lcdc 7 = bitOf v 7) : s.write8 0xFF40 v = { s with ppu := { s.ppu with lcdc := v } } := by
  have hlevel : ({ s.ppu with lcdc := v } : Ppu).statLevel = s.ppu.statLine := by
    rw [hline]
    unfold Ppu.statLevel Ppu.lcdOn
    rw [hsame]
    rfl
  rw [write8_lcdc, writeLcdc_same hsame, setPpuAndStat_eq, hlevel, Bool.and_not_self]
  rfl

theorem write8_lcdc_evaluated (s : State) (v : Byte) : StatEvaluated s (s.write8 0xFF40 v) := by
  cases hon : bitOf s.ppu.lcdc 7 <;> cases hv : bitOf v 7
  case true.false =>
    rw [write8_lcdc_off hon hv]
    exact ⟨(statLevel_of_off (by exact hv)).symm, (Bool.or_false _).symm⟩
  case false.true =>
    rw [write8_lcdc, writeLcdc_on hon hv]
    exact setPpuAndStat_evaluated rfl
  all_goals
    rw [write8_lcdc, writeLcdc_same (hon.trans hv.symm)]
    exact setPpuAndStat_evaluated rfl

end Sys2Proof.Machine

namespace Sys2Proof.Proofs

open Sys2Proof.Machine

/-- Settles O31: of the beam's moves the entry to line 144 alone publishes the frame and requests VBlank. -/
theorem vBlankEntry : Obligations.VBlankEntry := by
  unfold Obligations.VBlankEntry
  intro s hinv t
  have hsound := Ppu.sound_of_inv hinv
  refine ⟨fun hon hly hdot => ?_, fun hentry => ?_⟩
  · obtain ⟨hly', hmode, hfront, hrequest⟩ := tick_enters_vblank (len := s.mode3Len) (vram := s.mem.vram)
      (oam := s.mem.oam) hsound hon hly hdot
    exact ⟨hly', hmode, by rw [ppuTick_flags_getLsbD, hrequest, Bool.or_true], hfront⟩
  · obtain ⟨hfront, hrequest⟩ := tick_front_of_not_vblank (len := s.mode3Len) (vram := s.mem.vram)
      (oam := s.mem.oam) hsound hentry
    exact ⟨by rw [ppuTick_flags_getLsbD, hrequest, Bool.or_false], hfront⟩

/-- Settles O32: LCDC's write by whether bit 7 falls, rises or stays, and the parts of the PPU that are still while it
is off. -/
theorem lcdOnOff : Obligations.LcdOnOff := by
  unfold Obligations.LcdOnOff
  intro s v hinv t
  obtain ⟨hsound, hline⟩ := (Ppu.inv_iff _).mp hinv
  have hstat : s.read8 0xFF41 = s.ppu.readStat := read8_io s .stat rfl rfl
  have hlyc : s.read8 0xFF45 = s.ppu.lyc := read8_io s .lyc rfl rfl
  have hly : s.read8 0xFF44 = s.ppu.lyByte := read8_io s .ly rfl rfl
  refine ⟨fun hon hv => write8_lcdc_off hon hv, fun hoff hv => ?_, fun hsame => write8_lcdc_same hline hsame,
    fun hoff => ?_⟩
  · have hlow : s.ppu.statLine = false := hline.trans (statLevel_of_off hoff)
    obtain ⟨h6, h5, -⟩ := bitOf_readStat s.ppu
    refine ⟨(s.ppu.writeLcdc v).statLevel, _, ?_, ?_, rfl⟩
    · show s.write8 0xFF40 v = _
      rw [write8_lcdc, writeLcdc_on hoff hv, setPpuAndStat_eq, hlow, Bool.not_false, Bool.and_true]
    · rw [writeLcdc_on hoff hv, hstat, hlyc, h6, h5]
      exact statLevel_of_restart hv rfl rfl
  · obtain ⟨hly0, -, hmode⟩ := hsound.off hoff
    refine ⟨?_, ?_, ?_, fun a => ?_⟩
    · have hflags : s.irq.flags ||| 0 = s.irq.flags := BitVec.or_zero
      rw [ppuTick_spec, tick_of_off hoff]
      simp only
      rw [hflags]
    · rw [hly, Ppu.lyByte, hly0]
      rfl
    · have hcode : ∀ (stat : BitVec 4) (c : Bool),
          (0x80 ||| (stat.setWidth 8 <<< 3) ||| bitAt c 2 ||| Mode.hblank.code) &&& 3 = 0 := by decide +kernel
      rw [hstat, Ppu.readStat, hmode]
      exact hcode _ _
    · rw [State.blocked, show s.ppu.lcdOn = false from hoff, Bool.and_false, Bool.false_and]

/-- Settles O33: a dot and the three writes each end by evaluating the STAT line, whose level is `statLevel_iff`. -/
theorem statInterruptOnRisingEdge : Obligations.StatInterruptOnRisingEdge := by
  unfold Obligations.StatInterruptOnRisingEdge
  intro s t h
  have hstat : t.read8 0xFF41 = t.ppu.readStat := read8_io t .stat rfl rfl
  have hevaluated : StatEvaluated s t := by
    rcases h with ⟨hon, rfl⟩ | ⟨v, rfl | rfl | rfl⟩
    · exact ppuTick_evaluated hon
    · rw [write8_io s v .stat rfl rfl]
      exact setPpuAndStat_evaluated rfl
    · rw [write8_io s v .lyc rfl rfl]
      exact setPpuAndStat_evaluated rfl
    · exact write8_lcdc_evaluated s v
  obtain ⟨hline, hrequest⟩ := hevaluated
  exact ⟨by rw [hline, statLevel_iff, hstat], hrequest⟩

end Sys2Proof.Proofs
end

section
/-! SUPPORT. Dot 80 and the end of Drawing (65 R377, R379, R383, R385): the objects of a line as the first ten of a
sorted list, the Drawing length, and the window's state by the dot that changes it. -/

namespace Sys2Proof.Machine

variable {p : Ppu} {len : Ppu → Nat} {vram oam : Memory} {s : State}

/-! ### The object list (65 R379) -/

/-- An element of a rising list is among the first n, or they are n and all before it. -/
theorem mem_take_or_all_lt {l : List Nat} (hsorted : l.Pairwise (· < ·)) (n : Nat) {i : Nat} (hi : i ∈ l) :
    i ∈ l.take n ∨ ((l.take n).length = n ∧ ∀ j ∈ l.take n, j < i) := by
  rw [← List.take_append_drop n l, List.pairwise_append] at hsorted
  rw [← List.take_append_drop n l, List.mem_append] at hi
  obtain ⟨-, -, hlt⟩ := hsorted
  refine hi.imp_right fun hdrop => ⟨?_, fun j hj => hlt j hj i hdrop⟩
  have hpos := List.length_pos_of_mem hdrop
  rw [List.length_drop] at hpos
  rw [List.length_take]
  omega

theorem candidates_sorted (oam : Memory) (ly height : Nat) :
    ((List.range 40).filter (objOnLine oam ly height)).Pairwise (· < ·) :=
  List.pairwise_lt_range.filter _

theorem oamScan_sorted (oam : Memory) (ly height : Nat) : (oamScan oam ly height).Pairwise (· < ·) :=
  (candidates_sorted oam ly height).sublist (List.take_sublist _ _)

theorem objOnLine_iff (oam : Memory) (ly height i : Nat) : objOnLine oam ly height i = true ↔
    (Store.get oam (4 * i)).toNat ≤ ly + 16 ∧ ly + 16 < (Store.get oam (4 * i)).toNat + height :=
  decide_eq_true_iff

theorem mem_oamScan {ly height i : Nat} (hi : i ∈ oamScan oam ly height) :
    i < 40 ∧ objOnLine oam ly height i = true := by
  obtain ⟨hrange, hcovers⟩ := List.mem_filter.mp (List.mem_of_mem_take hi)
  exact ⟨List.mem_range.mp hrange, hcovers⟩

/-- A covering entry is left out only where ten before it cover the line. -/
theorem mem_oamScan_or {ly height i : Nat} (hi : i < 40) (hcovers : objOnLine oam ly height i = true) :
    i ∈ oamScan oam ly height ∨
      ((oamScan oam ly height).length = 10 ∧ ∀ j ∈ oamScan oam ly height, j < i) :=
  mem_take_or_all_lt (candidates_sorted oam ly height) 10
    (List.mem_filter.mpr ⟨List.mem_range.mpr hi, hcovers⟩)

/-! ### Dot 80 (65 R377, R383, R385) -/

/-- The PPU at dot 80 of which P_MODE3_LEN is the function. -/
def Ppu.scanned (oam : Memory) (p : Ppu) : Ppu :=
  { p with dot := 80, wyHit := p.wyHit || decide (p.ly = p.wy.toNat), objs := oamScan oam p.ly p.objHeight }

/-- The dot that enters Drawing: no pixel is drawn yet, since Drawing is at least 172 dots long. -/
theorem tick_starts_drawing (h : p.Sound) (hon : p.lcdOn = true) (hlen : ∀ q, 172 ≤ len q ∧ len q ≤ 289)
    (hly : p.ly < 144) (hdot : p.dot = 79) : ∃ statLine, (p.tick len vram oam).1 =
      { p.scanned oam with
        drawLen := len (p.scanned oam), winDrawn := false, mode := .drawing, statLine := statLine } := by
  have heffect := moveDot_effect h len oam
  have hlo := h.le_drawLen
  obtain ⟨hlo', -⟩ := hlen (p.scanned oam)
  rw [tick_of_on hon]
  generalize p.moveDot len oam = m at heffect
  cases heffect
  case drawing =>
    refine ⟨_, congrArg (fun q => (Ppu.updateStat q).1) (?_ : Ppu.drawDot vram oam _ = { p.scanned oam with
      drawLen := len (p.scanned oam), winDrawn := false, mode := .drawing })⟩
    refine if_neg fun hpixel => ?_
    obtain ⟨-, -, hfirst, -⟩ := hpixel
    change 80 + len (p.scanned oam) ≤ 80 + 160 at hfirst
    omega
  all_goals omega

theorem scanned_windowOn_iff (oam : Memory) (p : Ppu) : (p.scanned oam).windowOn = true ↔
    bitOf p.lcdc 5 = true ∧ bitOf p.lcdc 0 = true ∧ (p.wyHit = true ∨ p.ly = p.wy.toNat) ∧
      p.wx.toNat ≤ 166 := by
  show (bitOf p.lcdc 5 && bitOf p.lcdc 0 && (p.wyHit || decide (p.ly = p.wy.toNat)) &&
    decide (p.wx.toNat ≤ 166)) = true ↔ _
  simp only [Bool.and_eq_true, Bool.or_eq_true, decide_eq_true_eq, and_assoc]

/-! ### The window's state (65 R377, R385) -/

theorem tick_ends_drawing (h : p.Sound) (hon : p.lcdOn = true) (hly : p.ly < 144)
    (hdot : p.dot + 1 = 80 + p.drawLen) : (p.tick len vram oam).1.wyHit = p.wyHit ∧
      (p.tick len vram oam).1.winLine = if p.winDrawn then p.winLine + 1 else p.winLine := by
  obtain ⟨m, winDrawn, back, statLine, heffect, htick, -⟩ := tick_effect len vram oam h hon
  have hlo := h.le_drawLen
  have hhi := h.drawLen_le
  rw [htick]
  cases heffect
  case hblank => exact ⟨rfl, rfl⟩
  all_goals omega

theorem tick_wraps (h : p.Sound) (hon : p.lcdOn = true) (hly : p.ly = 153) (hdot : p.dot = 455) :
    (p.tick len vram oam).1.wyHit = false ∧ (p.tick len vram oam).1.winLine = 0 := by
  obtain ⟨m, winDrawn, back, statLine, heffect, htick, -⟩ := tick_effect len vram oam h hon
  rw [htick]
  cases heffect
  case wrap => exact ⟨rfl, rfl⟩
  all_goals omega

/-- No other dot changes the window's state. -/
theorem tick_window_kept (h : p.Sound) (hon : p.lcdOn = true) (hscan : ¬(p.ly < 144 ∧ p.dot = 79))
    (hdraw : ¬(p.ly < 144 ∧ p.dot + 1 = 80 + p.drawLen)) (hwrap : ¬(p.ly = 153 ∧ p.dot = 455)) :
    (p.tick len vram oam).1.wyHit = p.wyHit ∧ (p.tick len vram oam).1.winLine = p.winLine := by
  obtain ⟨m, winDrawn, back, statLine, heffect, htick, -⟩ := tick_effect len vram oam h hon
  rw [htick]
  cases heffect
  case wrap hly hdot => exact absurd ⟨hly, hdot⟩ hwrap
  case drawing hly hdot => exact absurd ⟨hly, hdot⟩ hscan
  case hblank hly hdot => exact absurd ⟨hly, hdot⟩ hdraw
  all_goals exact ⟨rfl, rfl⟩

end Sys2Proof.Machine

namespace Sys2Proof.Proofs

open Sys2Proof.Machine

/-- Settles O34: the state `tick_starts_drawing` gives, read off part by part, with the Drawing length of log entry 6;
the window's counter by the dot that changes it and, within its bound (log entry 13), by the invariant. -/
theorem dotEightyScansOam : Obligations.DotEightyScansOam := by
  unfold Obligations.DotEightyScansOam
  intro s hinv hon p starts ends wraps h covers windowOn
  have hsound := Ppu.sound_of_inv hinv
  have hsound' : p.Sound := Ppu.sound_of_inv (tick_inv hinv (State.mode3Len_range s))
  have hon' : p.lcdOn = true := (tick_lcdOn s.ppu).trans hon
  have hcovers (i : Nat) : objOnLine s.mem.oam s.ppu.ly s.ppu.objHeight i = true ↔ covers i := objOnLine_iff _ _ _ i
  refine ⟨fun ⟨hly, hdot⟩ => ?_, fun ⟨hly, hdot⟩ => tick_ends_drawing hsound hon hly hdot,
    hsound'.winLine_le.trans (winBound_le p), fun hly hmode => ?_,
    fun ⟨hly, hdot⟩ => tick_wraps hsound hon hly hdot,
    fun hscan hdraw hwrap => tick_window_kept hsound hon hscan hdraw hwrap⟩
  · obtain ⟨statLine, htick⟩ := tick_starts_drawing (vram := s.mem.vram) (oam := s.mem.oam) hsound hon
      (State.mode3Len_range s) hly hdot
    have hobjs : p.objs = oamScan s.mem.oam s.ppu.ly s.ppu.objHeight := congrArg Ppu.objs htick
    have hwyHit : p.wyHit = (s.ppu.wyHit || decide (s.ppu.ly = s.ppu.wy.toNat)) := congrArg Ppu.wyHit htick
    have hlen : p.drawLen = s.mode3Len (s.ppu.scanned s.mem.oam) := congrArg Ppu.drawLen htick
    refine ⟨hobjs ▸ oamScan_sorted _ _ _, hobjs ▸ oamScan_length_le _ _ _, fun i hi => ?_, fun i hi hcover => ?_,
      fun hformula => ⟨_, _, rfl, rfl, ?_⟩, fun k hother => ?_, ?_, (congrArg Ppu.winLine htick :),
      congrArg Ppu.winDrawn htick⟩
    · obtain ⟨hlt, hcover⟩ := mem_oamScan (hobjs ▸ hi)
      exact ⟨hlt, (hcovers i).mp hcover⟩
    · rw [hobjs]
      exact mem_oamScan_or hi ((hcovers i).mpr hcover)
    · rw [hlen, State.mode3Len_formula hformula, Machine.mode3Len, hobjs]
      have hwindow : (s.ppu.scanned s.mem.oam).windowOn = true ↔ windowOn := scanned_windowOn_iff _ _
      simp only [hwindow]
      rfl
    · rw [hlen, State.mode3Len, hother, hwyHit, hobjs]
      rfl
    · rw [hwyHit, Bool.or_eq_true, decide_eq_true_iff]
  · have hwin := hsound'.winLine_le_ly hon' hly hmode
    omega

end Sys2Proof.Proofs
end

section
/-! SUPPORT. The compositor (65 R381-R393): the winning object of a pixel, the colours of tiles and objects on numbers,
and the pixel of the last 160 dots of Drawing. -/

namespace Sys2Proof.Machine

variable {p : Ppu} {len : Ppu → Nat} {vram oam : Memory} {sx i : Nat}

/-! ### The winning object (65 R382) -/

/-- An object pixel that is drawn over another: the smaller X, and on equal X the smaller index or the same. -/
def ObjPixel.Beats (a b : ObjPixel) : Prop := a.x < b.x ∨ (a.x = b.x ∧ a.index ≤ b.index)

theorem ObjPixel.Beats.refl (a : ObjPixel) : a.Beats a := .inr ⟨rfl, le_refl _⟩

theorem ObjPixel.Beats.trans {a b c : ObjPixel} (hab : a.Beats b) (hbc : b.Beats c) : a.Beats c := by
  unfold ObjPixel.Beats at *
  omega

/-- Of two candidates the better beats both. -/
theorem betterObj_spec (a b : ObjPixel) :
    (betterObj a b = a ∨ betterObj a b = b) ∧ (betterObj a b).Beats a ∧ (betterObj a b).Beats b := by
  unfold betterObj
  split
  next h =>
    refine ⟨.inr rfl, ?_, ObjPixel.Beats.refl b⟩
    unfold ObjPixel.Beats
    omega
  next h =>
    refine ⟨.inl rfl, ObjPixel.Beats.refl a, ?_⟩
    unfold ObjPixel.Beats
    omega

/-- The best of a list of candidates is one of them and beats all. -/
theorem foldl_betterObj_spec (l : List ObjPixel) (a : ObjPixel) :
    l.foldl betterObj a ∈ a :: l ∧ ∀ o ∈ a :: l, (l.foldl betterObj a).Beats o := by
  induction l generalizing a with
  | nil => exact ⟨List.mem_singleton_self a, fun o ho => List.mem_singleton.mp ho ▸ ObjPixel.Beats.refl a⟩
  | cons b l ih =>
    obtain ⟨hmem, hbeats⟩ := ih (betterObj a b)
    obtain ⟨hone, ha, hb⟩ := betterObj_spec a b
    have hfirst := hbeats _ List.mem_cons_self
    rw [List.foldl_cons]
    refine ⟨?_, fun o ho => ?_⟩
    · rcases List.mem_cons.mp hmem with h | h
      · rw [h]
        rcases hone with h | h <;> rw [h]
        · exact List.mem_cons_self
        · exact List.mem_cons_of_mem _ List.mem_cons_self
      · exact List.mem_cons_of_mem _ (List.mem_cons_of_mem _ h)
    · rcases List.mem_cons.mp ho with rfl | ho
      · exact hfirst.trans ha
      · rcases List.mem_cons.mp ho with rfl | ho
        · exact hfirst.trans hb
        · exact hbeats o (List.mem_cons_of_mem _ ho)

/-- A fold that keeps the better of each pair, from a first candidate on. -/
theorem foldl_some {f : Option ObjPixel → ObjPixel → Option ObjPixel}
    (hf : ∀ b o, f (some b) o = some (betterObj b o)) (l : List ObjPixel) (a : ObjPixel) :
    l.foldl f (some a) = some (l.foldl betterObj a) := by
  induction l generalizing a with
  | nil => rfl
  | cons b l ih => rw [List.foldl_cons, List.foldl_cons, hf, ih]

/-- The pixels of a line's objects that may win at a column. -/
def Ppu.candidates (vram oam : Memory) (p : Ppu) (sx : Nat) : List ObjPixel :=
  p.objs.filterMap (p.objPixel vram oam sx)

theorem mem_candidates {o : ObjPixel} :
    o ∈ p.candidates vram oam sx ↔ ∃ i ∈ p.objs, p.objPixel vram oam sx i = some o := List.mem_filterMap

theorem objWinner_of_nil (h : p.candidates vram oam sx = []) : p.objWinner vram oam sx = none := by
  unfold Ppu.candidates at h
  rw [Ppu.objWinner, h, List.foldl_nil]

theorem objWinner_of_cons {o : ObjPixel} {l : List ObjPixel} (h : p.candidates vram oam sx = o :: l) :
    p.objWinner vram oam sx = some (l.foldl betterObj o) := by
  unfold Ppu.candidates at h
  rw [Ppu.objWinner, h, List.foldl_cons]
  exact foldl_some (fun _ _ => rfl) l o

theorem objWinner_eq_none_iff :
    p.objWinner vram oam sx = none ↔ ∀ i ∈ p.objs, p.objPixel vram oam sx i = none := by
  have hnil : p.candidates vram oam sx = [] ↔ ∀ i ∈ p.objs, p.objPixel vram oam sx i = none :=
    List.filterMap_eq_nil_iff
  rw [← hnil]
  cases h : p.candidates vram oam sx with
  | nil => exact iff_of_true (objWinner_of_nil h) rfl
  | cons o l =>
    rw [objWinner_of_cons h]
    exact iff_of_false (fun hnone => nomatch hnone) fun hcons => nomatch hcons

theorem objWinner_spec {w : ObjPixel} (h : p.objWinner vram oam sx = some w) :
    w ∈ p.candidates vram oam sx ∧ ∀ o ∈ p.candidates vram oam sx, w.Beats o := by
  cases hc : p.candidates vram oam sx with
  | nil =>
    rw [objWinner_of_nil hc] at h
    cases h
  | cons o l =>
    rw [objWinner_of_cons hc] at h
    cases h
    exact foldl_betterObj_spec l o

/-- The winner is the one candidate that beats all: two that beat each other have the same index. -/
theorem objWinner_eq_some_of_beats {w : ObjPixel} (hmem : w ∈ p.candidates vram oam sx)
    (hbeats : ∀ o ∈ p.candidates vram oam sx, w.Beats o)
    (hindex : ∀ i o, p.objPixel vram oam sx i = some o → o.index = i) :
    p.objWinner vram oam sx = some w := by
  obtain ⟨i, hi, hw⟩ := mem_candidates.mp hmem
  cases h : p.objWinner vram oam sx with
  | none =>
    rw [objWinner_eq_none_iff.mp h i hi] at hw
    cases hw
  | some u =>
    obtain ⟨humem, hubeats⟩ := objWinner_spec h
    obtain ⟨j, hj, hu⟩ := mem_candidates.mp humem
    have hwu := hbeats u humem
    have huw := hubeats w hmem
    have hsame : i = j := by
      rw [← hindex i w hw, ← hindex j u hu]
      unfold ObjPixel.Beats at hwu huw
      omega
    rw [← hu, ← hw, hsame]

/-! ### Colours and shades on numbers (65 R387, R393) -/

/-- A plane's bit of a pixel. -/
theorem bitOf_toNat (v : Byte) (i : Nat) : (bitOf v i).toNat = v.toNat / 2 ^ i % 2 := Nat.toNat_testBit v.toNat i

theorem tilePixel_eq (vram : Memory) (base row col : Nat) : tilePixel vram base row col =
    2 * ((Store.get vram (base + 2 * row + 1)).toNat / 2 ^ (7 - col) % 2) +
      (Store.get vram (base + 2 * row)).toNat / 2 ^ (7 - col) % 2 := by
  unfold tilePixel
  simp only [bitOf_toNat]

theorem bgTileOffset_signed (t : Byte) :
    bgTileOffset false t = if t.toNat < 128 then 0x1000 + 16 * t.toNat else 16 * t.toNat := by
  have ht := t.isLt
  have hsext := BitVec.toInt_eq_toNat_cond t
  rw [bgTileOffset, if_neg Bool.false_ne_true, hsext]
  split_ifs <;> omega

/-- The row of the spec's example (65 R387). -/
theorem tilePixel_row_3C_7E {vram : Memory} {base : Nat} (hlow : Store.get vram base = 0x3C)
    (hhigh : Store.get vram (base + 1) = 0x7E) :
    (List.range 8).map (tilePixel vram base 0) = [0, 2, 3, 3, 3, 3, 2, 0] := by
  have hrow : tilePixel vram base 0 = fun col =>
      2 * ((0x7E : Byte).toNat / 2 ^ (7 - col) % 2) + (0x3C : Byte).toNat / 2 ^ (7 - col) % 2 := by
    funext col
    simp only [tilePixel_eq, Nat.mul_zero, Nat.add_zero, hlow, hhigh]
  rw [hrow]
  decide

theorem shade_toNat (palette : Byte) (c : Nat) : (shade palette c).toNat = palette.toNat / 4 ^ c % 4 := by
  rw [shade, BitVec.toNat_setWidth, BitVec.toNat_ushiftRight, Nat.shiftRight_eq_div_pow, Nat.pow_mul]

/-! ### The pixel of an object (65 R381, R388, R392) -/

/-- The object covers the line and the column. -/
def Ppu.ObjCovers (oam : Memory) (p : Ppu) (sx i : Nat) : Prop :=
  oamAt oam (4 * i + 1) ≤ sx + 8 ∧ sx < oamAt oam (4 * i + 1) ∧ oamAt oam (4 * i) ≤ p.ly + 16 ∧
    p.ly + 16 < oamAt oam (4 * i) + p.objHeight

/-- The object's row on the line, from its last where bit 6 of its byte 3 flips it. -/
def Ppu.objRow (oam : Memory) (p : Ppu) (i : Nat) : Nat :=
  if bitOf (Store.get oam (4 * i + 3)) 6 then oamAt oam (4 * i) + p.objHeight - 1 - (p.ly + 16)
  else p.ly + 16 - oamAt oam (4 * i)

/-- The object's column, from its last where bit 5 of its byte 3 flips it. -/
def objCol (oam : Memory) (sx i : Nat) : Nat :=
  if bitOf (Store.get oam (4 * i + 3)) 5 then oamAt oam (4 * i + 1) - 1 - sx else sx + 8 - oamAt oam (4 * i + 1)

/-- The tile of the object's row: of a tall object, one of an even number and the next. -/
def Ppu.objTile (oam : Memory) (p : Ppu) (i : Nat) : Nat :=
  if bitOf p.lcdc 2 then oamAt oam (4 * i + 2) - oamAt oam (4 * i + 2) % 2 + p.objRow oam i / 8
  else oamAt oam (4 * i + 2)

/-- The object's colour index at the column. -/
def Ppu.objColor (vram oam : Memory) (p : Ppu) (sx i : Nat) : Nat :=
  tilePixel vram (16 * p.objTile oam i) (p.objRow oam i % 8) (objCol oam sx i)

theorem objPixel_of_not_covers (h : ¬p.ObjCovers oam sx i) : p.objPixel vram oam sx i = none := by
  refine if_neg fun hcovers => h ?_
  obtain ⟨hleft, hright, htop, hbottom⟩ := hcovers
  exact ⟨hleft, by omega, htop, hbottom⟩

theorem objHeight_eq_16_iff (p : Ppu) : p.objHeight = 16 ↔ bitOf p.lcdc 2 = true := by
  unfold Ppu.objHeight
  split
  next h => exact iff_of_true rfl h
  next h => exact iff_of_false (by decide) h

theorem objPixel_of_covers (h : p.ObjCovers oam sx i) : p.objPixel vram oam sx i =
    if p.objColor vram oam sx i = 0 then none
    else some { x := oamAt oam (4 * i + 1), index := i, color := p.objColor vram oam sx i
                attr := Store.get oam (4 * i + 3) } := by
  obtain ⟨hleft, hright, htop, hbottom⟩ := h
  have hrow : (if bitOf (Store.get oam (4 * i + 3)) 6 then p.objHeight - 1 - (p.ly + 16 - oamAt oam (4 * i))
      else p.ly + 16 - oamAt oam (4 * i)) = p.objRow oam i := by
    unfold Ppu.objRow
    split <;> omega
  have hcol : (if bitOf (Store.get oam (4 * i + 3)) 5 then 7 - (sx + 8 - oamAt oam (4 * i + 1))
      else sx + 8 - oamAt oam (4 * i + 1)) = objCol oam sx i := by
    unfold objCol
    split <;> omega
  have htile : (if p.objHeight = 16 then oamAt oam (4 * i + 2) / 2 * 2 + p.objRow oam i / 8
      else oamAt oam (4 * i + 2)) = p.objTile oam i := by
    unfold Ppu.objTile
    simp only [objHeight_eq_16_iff]
    split <;> omega
  unfold Ppu.objPixel
  simp only
  rw [if_pos ⟨hleft, by omega, htop, hbottom⟩, hrow, hcol, htile]
  rfl

theorem objPixel_eq_some_iff {o : ObjPixel} : p.objPixel vram oam sx i = some o ↔
    p.ObjCovers oam sx i ∧ o.x = oamAt oam (4 * i + 1) ∧ o.index = i ∧ o.attr = Store.get oam (4 * i + 3) ∧
      o.color = p.objColor vram oam sx i ∧ o.color ≠ 0 := by
  by_cases h : p.ObjCovers oam sx i
  · rw [objPixel_of_covers h, and_iff_right h]
    obtain ⟨x, index, color, attr⟩ := o
    split
    next hzero => exact iff_of_false (fun hnone => nomatch hnone) fun ⟨_, _, _, hcolor, hne⟩ => hne (hcolor.trans hzero)
    next hzero =>
      rw [Option.some_inj, ObjPixel.mk.injEq]
      constructor
      · rintro ⟨rfl, rfl, rfl, rfl⟩
        exact ⟨rfl, rfl, rfl, rfl, hzero⟩
      · rintro ⟨hx, hindex, hattr, hcolor, -⟩
        exact ⟨hx.symm, hindex.symm, hcolor.symm, hattr.symm⟩
  · rw [objPixel_of_not_covers h]
    exact iff_of_false (fun hnone => nomatch hnone) fun hcovers => h hcovers.1

/-- A candidate that beats all wins, by its index alone (65 R382). -/
theorem objWinner_eq_some_iff {w : ObjPixel} : p.objWinner vram oam sx = some w ↔
    w ∈ p.candidates vram oam sx ∧ ∀ o ∈ p.candidates vram oam sx, w.Beats o :=
  ⟨objWinner_spec, fun ⟨hmem, hbeats⟩ => objWinner_eq_some_of_beats hmem hbeats fun _ _ h =>
    (objPixel_eq_some_iff.mp h).2.2.1⟩

/-! ### The pixel of a dot (65 R377, R389, R391) -/

/-- The dot is one of the last 160 of Drawing. -/
def Ppu.Draws (p : Ppu) : Prop := p.ly < 144 ∧ 80 + p.drawLen ≤ p.dot + 160 ∧ p.dot < 80 + p.drawLen

/-- The column of its pixel. -/
def Ppu.column (p : Ppu) : Nat := p.dot + 160 - (80 + p.drawLen)

theorem drawDot_of_draws (h : p.Sound) (hon : p.lcdOn = true) (hdraws : p.Draws) :
    p.drawDot vram oam = p.renderPixel vram oam p.column := by
  obtain ⟨hly, hfirst, hlast⟩ := hdraws
  have hlo := h.le_drawLen
  exact if_pos ⟨hly, (h.mode_on hon).trans (modeAt_drawing hly (by omega) hlast), hfirst, hlast⟩

theorem drawDot_of_not_draws (h : ¬p.Draws) : p.drawDot vram oam = p :=
  if_neg fun ⟨hly, _, hfirst, hlast⟩ => h ⟨hly, hfirst, hlast⟩

/-- The beam's move leaves the back frame, and but for dot 80 the mark of the window. -/
theorem moveDot_back (h : p.Sound) : (p.moveDot len oam).1.back = p.back ∧
    (¬(p.ly < 144 ∧ p.dot = 79) → (p.moveDot len oam).1.winDrawn = p.winDrawn) := by
  have heffect := moveDot_effect h len oam
  generalize p.moveDot len oam = m at heffect
  cases heffect
  case drawing hly hdot => exact ⟨rfl, fun hscan => absurd ⟨hly, hdot⟩ hscan⟩
  all_goals exact ⟨rfl, fun _ => rfl⟩

/-- No pixel is drawn at dot 80. -/
theorem moveDot_draws_not_start (h : p.Sound) (hlen : ∀ q, 172 ≤ len q ∧ len q ≤ 289)
    (hdraws : (p.moveDot len oam).1.Draws) : ¬(p.ly < 144 ∧ p.dot = 79) := by
  rintro ⟨hly, hdot⟩
  have heffect := moveDot_effect h len oam
  have hlo := h.le_drawLen
  generalize p.moveDot len oam = m at heffect hdraws
  cases heffect
  case drawing =>
    obtain ⟨-, hfirst, -⟩ := hdraws
    obtain ⟨hlo', -⟩ := hlen (p.scanned oam)
    change 80 + len (p.scanned oam) ≤ 80 + 160 at hfirst
    omega
  all_goals omega

/-- What a dot does to the back frame and the mark of the window, by the PPU it leaves: the last 160 dots of Drawing
each set the cell of their pixel, and no other dot sets one. -/
theorem tick_pixel (h : p.Sound) (hon : p.lcdOn = true) (hlen : ∀ q, 172 ≤ len q ∧ len q ≤ 289) {p' : Ppu}
    (hp : p' = (p.tick len vram oam).1) :
    (¬p'.Draws → p'.back = p.back ∧ (¬(p.ly < 144 ∧ p.dot = 79) → p'.winDrawn = p.winDrawn)) ∧
      (p'.Draws → p'.back = Store.set p.back (frameKey p'.ly p'.column) (p'.pixelShade vram oam p'.column) ∧
        p'.winDrawn = (p.winDrawn || (bitOf p'.lcdc 0 && p'.windowCovers p'.column))) := by
  obtain ⟨hback, hwin⟩ := moveDot_back (len := len) (oam := oam) h
  have hsound := moveDot_sound (oam := oam) h hon hlen
  have hlcd := (lcdOn_of_registers (moveDot_registers len oam p)).trans hon
  have hstart := moveDot_draws_not_start (oam := oam) h hlen
  have hdraws : p'.Draws ↔ (p.moveDot len oam).1.Draws := by
    obtain ⟨winDrawn, back, statLine, htick⟩ := tick_kept (len := len) (vram := vram) (oam := oam) hon
    rw [hp, htick]
    rfl
  rw [hdraws]
  rw [tick_of_on hon] at hp
  generalize (p.moveDot len oam).1 = q at *
  refine ⟨fun hnot => ?_, fun hdraw => ?_⟩
  · rw [hp, drawDot_of_not_draws hnot]
    exact ⟨hback, hwin⟩
  · rw [hp, drawDot_of_draws hsound hlcd hdraw, ← hback, ← hwin (hstart hdraw)]
    exact ⟨rfl, rfl⟩

theorem windowCovers_iff (p : Ppu) (sx : Nat) : p.windowCovers sx = true ↔
    bitOf p.lcdc 5 = true ∧ bitOf p.lcdc 0 = true ∧ p.wyHit = true ∧ p.wx.toNat ≤ 166 ∧ p.wx.toNat ≤ sx + 7 := by
  simp only [Ppu.windowCovers, Ppu.windowOn, Bool.and_eq_true, decide_eq_true_eq, and_assoc]

theorem pixelShade_of_winner {w : ObjPixel} (hobjs : bitOf p.lcdc 1 = true)
    (hwinner : p.objWinner vram oam sx = some w) (hfront : ¬(bitOf w.attr 7 = true ∧ p.bgWinColor vram sx ≠ 0)) :
    p.pixelShade vram oam sx = shade (if bitOf w.attr 4 then p.obp1 else p.obp0) w.color := by
  unfold Ppu.pixelShade
  simp only
  rw [if_pos hobjs, hwinner]
  exact if_neg hfront

/-- Where no winner is in front of it the background or window shows. -/
theorem pixelShade_of_no_winner (h : ∀ w, bitOf p.lcdc 1 = true → p.objWinner vram oam sx = some w →
      bitOf w.attr 7 = true ∧ p.bgWinColor vram sx ≠ 0) :
    p.pixelShade vram oam sx = if bitOf p.lcdc 0 then shade p.bgp (p.bgWinColor vram sx) else 0 := by
  unfold Ppu.pixelShade
  simp only
  split
  next hobjs =>
    split
    next w hwinner => exact if_pos (h w hobjs hwinner)
    next => rfl
  next => rfl

/-- The colour under the objects: 0 with LCDC bit 0 clear, else the window's where it covers the column. -/
theorem bgWinColor_eq (vram : Memory) (p : Ppu) (sx : Nat) : p.bgWinColor vram sx =
    if bitOf p.lcdc 0 then (if p.windowCovers sx then p.winColor vram sx else p.bgColor vram sx) else 0 := rfl

/-- A frame has one cell for each line and column. -/
theorem frameKey_inj {line ly column k : Nat} (hcolumn : column < 160) (hk : k < 160)
    (h : frameKey line column = frameKey ly k) : line = ly ∧ column = k := by
  unfold frameKey at h
  omega

end Sys2Proof.Machine

namespace Sys2Proof.Proofs

open Sys2Proof.Machine

/-- Settles O35: the fold keeps the better of each pair, so its end is a candidate that beats all. -/
theorem objectPriority : Obligations.ObjectPriority := by
  unfold Obligations.ObjectPriority
  refine fun vram oam p sx => ⟨objWinner_eq_none_iff, fun w hw => ?_⟩
  obtain ⟨hmem, hbeats⟩ := objWinner_spec hw
  exact ⟨mem_candidates.mp hmem, fun i hi o ho => hbeats o (mem_candidates.mpr ⟨i, hi, ho⟩)⟩

/-- Settles O36: the colours on numbers, `objPixel_eq_some_iff` for the object's pixel, and `tick_pixel` for the dot,
whose shade is that of the winner in front of the background or the window. -/
theorem tileRowExample : Obligations.TileRowExample := by
  unfold Obligations.TileRowExample
  refine ⟨fun vram base row col _ => tilePixel_eq vram base row col, fun t => ⟨rfl, bgTileOffset_signed t⟩,
    fun vram base hlow hhigh => tilePixel_row_3C_7E hlow hhigh, fun vram oam p sx i o => ?_, fun s hinv hon => ?_⟩
  · rw [objPixel_eq_some_iff]
    constructor
    · rintro ⟨⟨hleft, hright, htop, hbottom⟩, hx, hindex, hattr, hcolor, hne⟩
      exact ⟨p.objRow oam i, objCol oam sx i, p.objTile oam i, hleft, hright, htop, hbottom, rfl, rfl, rfl, hx,
        hindex, hattr, hcolor, hne⟩
    · rintro ⟨row, col, tile, hleft, hright, htop, hbottom, hrow, hcol, htile, hx, hindex, hattr, hcolor, hne⟩
      subst hrow hcol htile
      exact ⟨⟨hleft, hright, htop, hbottom⟩, hx, hindex, hattr, hcolor, hne⟩
  · have hsound := Ppu.sound_of_inv hinv
    obtain ⟨hstill, hpixel⟩ := tick_pixel (vram := s.mem.vram) (oam := s.mem.oam) hsound hon
      (State.mode3Len_range s) (p' := s.ppuTick.ppu) rfl
    generalize s.ppuTick.ppu = p at hstill hpixel
    intro p' k drawn inWindow cell shadeOf wins
    refine ⟨hstill, fun hdraws => ?_⟩
    obtain ⟨hback, hwinDrawn⟩ := hpixel hdraws
    have hk : k < 160 := by
      obtain ⟨-, hfirst, hlast⟩ := hdraws
      omega
    have hwindow : p.windowCovers k = true ↔ inWindow := windowCovers_iff p k
    have hwins (w : ObjPixel) : wins w ↔ p.objWinner s.mem.vram s.mem.oam k = some w := by
      rw [objWinner_eq_some_iff, mem_candidates]
      exact and_congr_right fun _ => ⟨fun h o ho => (mem_candidates.mp ho).elim fun i hi => h i hi.1 o hi.2,
        fun h i hi o ho => h o (mem_candidates.mpr ⟨i, hi, ho⟩)⟩
    have hcell : Frame.pixel p.back p.ly k = p.pixelShade s.mem.vram s.mem.oam k := by
      rw [hback]
      exact Store.get_set_same _ _ _
    refine ⟨p.bgWinColor s.mem.vram k, _, ?_, rfl, fun w hobjs hw hfront => ?_, fun hnone => ?_,
      fun line column hcolumn hother => ?_, ?_⟩
    · rw [bgWinColor_eq]
      simp only [hwindow]
      rfl
    · rw [hcell, pixelShade_of_winner hobjs ((hwins w).mp hw) hfront, shade_toNat]
    · rw [hcell, pixelShade_of_no_winner fun w hobjs hw => hnone w hobjs ((hwins w).mpr hw)]
      split
      next => exact shade_toNat _ _
      next => rfl
    · rw [hback]
      exact Store.get_set_other _ _ fun hkey => hother (frameKey_inj hcolumn hk hkey)
    · rw [hwinDrawn, Bool.or_eq_true, Bool.and_eq_true]
      have hmark : bitOf p.lcdc 0 = true ∧ p.windowCovers k = true ↔ inWindow :=
        ⟨fun h => hwindow.mp h.2, fun h => ⟨h.2.1, hwindow.mpr h⟩⟩
      exact or_congr_right hmark

end Sys2Proof.Proofs
end
